-- ==== Sys2Proof/Config.lean ====
section
/-! DEFINITION. What one part fixes: the capacities of Table 0-3 and the fixed times of the chapters. The part leaves no value
to the implementation and names no undefined value; one value that no rule states is free here. -/

namespace Sys2Proof.Config

/-- Link ports (Table 0-3). -/
def ports : Nat := 6
/-- Streams (Table 0-3). -/
def streams : Nat := 128
/-- Buses (Table 0-3). -/
def buses : Nat := 64
/-- Zones (Table 0-3). -/
def zones : Nat := 96
/-- Claim records (Table 0-3). -/
def claims : Nat := 48
/-- Tone voices (Table 0-3). -/
def voices : Nat := 8
/-- Cadences (Table 0-3). -/
def cadences : Nat := 32
/-- Fire zones (Table 0-3). -/
def fireZones : Nat := 16
/-- Talk groups (Table 0-3). -/
def groups : Nat := 8
/-- Scenes (Table 0-3). -/
def scenes : Nat := 16
/-- Cues (Table 0-3). -/
def cues : Nat := 64
/-- Sensors and curves (Table 0-3). -/
def sensors : Nat := 8
/-- Amp groups (Table 0-3). -/
def ampGroups : Nat := 16
/-- Route table entries, identities 0 to 254 (Table 0-3). -/
def routes : Nat := 255
/-- Cells an egress control queue holds (R27). -/
def egressDepth : Nat := 8
/-- Authority table entries (R29). -/
def authEntries : Nat := 16
/-- Sample positions of the delay pool (R45). -/
def delayPool : Nat := 32768
/-- Claims a zone's claim list holds (R82). -/
def listDepth : Nat := 6
/-- Places of the scene entry pool (R155). -/
def scenePool : Nat := 2048
/-- Steps a cadence holds (R108). -/
def cadenceSteps : Nat := 12
/-- Members a talk group holds (R139). -/
def groupMembers : Nat := 10
/-- Breakpoints a curve holds (R176). -/
def breakpoints : Nat := 8
/-- Frame periods of a measuring window (R178). -/
def windowLength : Nat := 4800
/-- Frame periods of the contact's debounce (R127). -/
def contactDebounce : Nat := 960
/-- Frame periods of absence after which a source is lost (R101). -/
def sourceWatch : Nat := 48000
/-- Where the idle residency stops rising (R185). -/
def residencyCap : Nat := 172800000
/-- Mix periods a pending coefficient waits at most (R52). -/
def zeroCrossWait : Nat := 480
/-- Frame periods in one millisecond (section 0.6.1). -/
def perMs : Nat := 48
/-- Frame periods in one second (section 0.6.1). -/
def perSecond : Nat := 48000

/-- DESIGN CHOICE (log entry 29; safe): a free value, from 0 to 32,766: one less than the step of a RAMP entry that is set with a
crossfade time of 0, given the distance to its target. R159 states a step for times above 0 only. -/
opaque stepOfNoTime (distance : Nat) : Fin 32767

end Sys2Proof.Config
end

