-- ==== Sys2Proof/Word.lean ====
section
/-! DEFINITION. The words of the part: bytes of a link frame, samples and coefficients. The arithmetic on them that the
spec describes stands in Machine/Ops.lean. -/

namespace Sys2Proof

/-- One byte of a link frame (chapter 1, section 1.1). -/
abbrev Byte := BitVec 8

/-- A sample: a signed integer, in the part always from -8,388,608 to 8,388,607 (section 0.6.2). -/
abbrev Sample := Int

/-- A coefficient: a multiple of 1/16,384, from 0 to 32,767 (section 0.6.3). -/
abbrev Coef := Nat

/-- The byte that holds a number; numbers above 255 keep their low eight bits. -/
def byteOf (n : Nat) : Byte := BitVec.ofNat 8 n

end Sys2Proof
end

