-- ==== Sys2Proof/Syntax.lean ====
section
/-! DEFINITION. The commands the part takes: one constructor of Instr for each row of spec/opcode_table.json.

Twenty-two rows are events (at the reset input, at a port, at the converters, at a timer, at an amplifier line).
Forty-seven rows are requests: one control cell taken by the part. A request's operands are the fields of its rule, as
numbers the wire can carry (R31 clamps or refuses values outside a field's range), with enumerated choices, forms and masks as
the numbers R39 gives them and a field that may be none or DEFAULT as an Option. -/

namespace Sys2Proof

/-- How a request reached the part (R21 to R23): its arrival port, its source identity, its tag, and whether its
destination was 255, in which case no REPLY is composed. -/
structure ReqHdr where
  port : Fin 6
  src : Nat
  tag : Nat
  bcast : Bool
  deriving DecidableEq, Repr

/-- A source or a destination as it is carried in three bytes (R39): the form (0 for a port and slot, 1 for a local input or
output, 2 for an absent backup source), the port or local number, the slot. -/
structure RawLoc where
  form : Nat
  num : Nat
  slot : Nat
  deriving DecidableEq, Repr

/-- A cadence step as LOAD-CADENCE carries it (Table 6-2, R109). -/
structure RawStep where
  freq : Nat
  duty : Nat
  level : Nat
  onMs : Nat
  offMs : Nat
  count : Nat
  deriving DecidableEq, Repr

/-- A member as LOAD-GROUP carries it (Table 8-1, R141). -/
structure RawMember where
  station : Nat
  stream : Nat
  bus : Nat
  gain : Nat
  prio : Bool
  latching : Bool
  timeout : Nat
  deriving DecidableEq, Repr

/-- A scene entry as LOAD-SCENE carries it (R155, R156); the mode is 0 RAMP, 1 ZEROCROSS, 2 CUT. -/
structure RawEntry where
  bus : Nat
  stream : Nat
  coef : Nat
  mode : Nat
  deriving DecidableEq, Repr

/-- The target of a PAGE-OPEN (R84): a zone set (bit n is zone n), or a mask of zone kinds (bit 0 CABIN, 1 PUBLIC, 2 CREW,
3 THEATRE). -/
inductive PageTarget where
  | zones (set : BitVec 96)
  | kinds (mask : Nat)
  deriving DecidableEq, Repr

/-- The commands, one constructor for each row of spec/opcode_table.json. -/
inductive Instr where
  /-- The reset input rises with the straps at a level (R20). -/
  | hardwareReset (straps : BitVec 8)
  /-- A link frame arrives on a port, as the bytes between two frame boundaries (R1, R2, R4). -/
  | frameArrival (port : Fin 6) (bytes : List Byte)
  | lossTimerExpiry (port : Fin 6)
  | portDeparture (port : Fin 6)
  /-- The converters deliver eight samples and take eight (R12, R19). -/
  | localExchange (inputs : List (BitVec 24))
  | mixPeriod
  | toneVoiceSample
  | stepTimerExpiry (voice : Fin 8)
  /-- The contact input has differed from its debounced level for the whole debounce; closed or open (R127). -/
  | contactDebounceComplete (closed : Bool)
  /-- A gate input has differed from its debounced level for its debounce length; high or low (R165). -/
  | gateDebounceComplete (line : Fin 4) (high : Bool)
  | ampReadyChange (group : Fin 16) (high : Bool)
  | ampFaultInputChange (group : Fin 16) (high : Bool)
  | timeLimitExpiry (claim : Fin 48)
  | sourceWatchExpiry (claim : Fin 48)
  | talkTimerExpiry (group : Fin 8) (member : Fin 10)
  | autoFollowExpiry
  | stretchTimerExpiry (line : Fin 4)
  | scanWindowComplete
  | wakeTimerExpiry (group : Fin 16)
  | fullWindow (group : Fin 16)
  | idleResidencyThreshold (group : Fin 16)
  | loadPort (h : ReqHdr) (port lt : Nat)
  | loadStreamMap (h : ReqHdr) (stream : Nat) (primary backup : RawLoc)
  | loadStreamUnmap (h : ReqHdr) (stream : Nat)
  | loadRoute (h : ReqHdr) (node : Nat) (port : Option Nat)
  /-- The class mask is bit 0 CONFIG, bit 1 BRIDGE, bit 2 OPERATOR. -/
  | loadAuth (h : ReqHdr) (node classes : Nat)
  | setReport (h : ReqHdr) (node : Option Nat)
  | read (h : ReqHdr) (table index segment : Nat)
  | clearCountsPort (h : ReqHdr) (port : Nat)
  | clearCountsBus (h : ReqHdr) (bus : Nat)
  | clearCountsEvery (h : ReqHdr)
  | resetNodeJobs (h : ReqHdr)
  | resetNodeAll (h : ReqHdr)
  /-- The role is 0 UNUSED, 1 ZONE, 2 TALK. -/
  | loadOutput (h : ReqHdr) (bus role delay : Nat) (dests : List RawLoc)
  /-- The kind is 0 CABIN, 1 PUBLIC, 2 CREW, 3 THEATRE; an absent value field is DEFAULT. -/
  | loadZoneLoad (h : ReqHdr) (zone kind fireZone : Nat) (buses : List Nat) (duck threshold override layerStep : Option Nat)
      (sensor amp : Option Nat)
  | loadZoneUnload (h : ReqHdr) (zone : Nat)
  | cabinLevel (h : ReqHdr) (zone level : Nat)
  /-- The grant rule is 0 ANY, 1 ALL; on-preempt is 0 SUSPEND, 1 DROP. -/
  | pageOpen (h : ReqHdr) (priority source : Nat) (target : PageTarget) (grantRule : Nat) (wait : Bool) (onPreempt : Nat)
      (chime : Option Nat) (limit : Nat)
  | pageClose (h : ReqHdr) (claim : Nat)
  | loadCadence (h : ReqHdr) (cadence : Nat) (first : Bool) (repeats : Nat) (steps : List RawStep)
  /-- The signal is 0 CREW_ALERT, 1 FIRE, 2 GENERAL. -/
  | loadSignal (h : ReqHdr) (signal cadence level duck kinds : Nat)
  /-- The kind is 1 CREW_ALERT, 2 FIRE, 3 GENERAL, as in byte 5 of the frame; bit n - 1 of the set is fire zone n. -/
  | alarmSet (h : ReqHdr) (zones : BitVec 16) (kind : Nat)
  | alarmClearCell (h : ReqHdr) (zones : BitVec 16)
  | alarmClearContact (h : ReqHdr)
  | loadGroup (h : ReqHdr) (group : Nat) (first : Bool) (limit : Nat) (members : List RawMember)
  | talkKeyOn (h : ReqHdr) (group : Nat)
  | talkKeyOff (h : ReqHdr) (group : Nat)
  | loadSceneScope (h : ReqHdr) (scene : Nat) (scope : BitVec 64)
  | loadSceneEntries (h : ReqHdr) (scene : Nat) (first : Bool) (entries : List RawEntry)
  | loadCueLoad (h : ReqHdr) (cue scene crossfade : Nat) (autoFollow next : Option Nat)
  | loadCueUnload (h : ReqHdr) (cue : Nat)
  | loadCueMark (h : ReqHdr) (cue : Option Nat)
  /-- The setting is 0 to 4 for 0, 1, 5, 10, 50 ms; the mode is 0 OFF, 1 GO, 2 HOLD, 3 STOP. -/
  | loadLineGate (h : ReqHdr) (line setting mode : Nat)
  /-- The source is numbered as Table 9-1 lists them; the width is 0 DIRECT, 1 STRETCH, 2 LATCH; the stretch is 0 to 7 for 1,
  5, 10, 20, 50, 100, 200, 500 ms. -/
  | loadLineStatus (h : ReqHdr) (line source width stretch : Nat)
  | go (h : ReqHdr)
  | goto (h : ReqHdr) (cue : Nat)
  | applyScene (h : ReqHdr) (scene crossfade : Nat)
  | showClearShowStop (h : ReqHdr)
  | showClearCueMark (h : ReqHdr)
  | showClearLines (h : ReqHdr)
  | loadSensorLoad (h : ReqHdr) (sensor input : Nat) (offset : Int) (low high curve : Nat) (compStep : Option Nat)
  | loadSensorUnload (h : ReqHdr) (sensor : Nat)
  /-- A breakpoint is a threshold and a coefficient. -/
  | loadCurve (h : ReqHdr) (curve : Nat) (first : Bool) (points : List (Nat × Nat))
  /-- The mode is 0 SINGLE, 1 CONTINUOUS. -/
  | scanStart (h : ReqHdr) (first last mode : Nat)
  | scanStop (h : ReqHdr)
  /-- The fault-clear mode is 0 AUTO, 1 MANUAL. -/
  | loadAmp (h : ReqHdr) (group clearMode quietAfter standbyAfter offAfter wakeStandby wakeOff threshold window : Nat)
  /-- The deepest state is 0 ON, 1 QUIET, 2 STANDBY, 3 OFF. -/
  | ampPolicy (h : ReqHdr) (deepest : Nat)
  | faultClear (h : ReqHdr) (group : Nat)
  | resetInputLow
  deriving DecidableEq, Repr

end Sys2Proof
end

