-- ==== Sys2Proof/Machine/Records.lean ====
section
/-! DEFINITION. The records the blocks of the part hold (Table 0-2), as plain data. What the spec says is computed from
other state (delay base, contact kind, resolved word and the like) is a function elsewhere, not a field. -/

namespace Sys2Proof.Machine

/-! Chapter 1: link ports and streams -/

/-- R2: the state of a port. -/
inductive PortState where
  | down
  | seeking
  | up
  deriving DecidableEq, Repr

/-- An alarm kind (chapter 7); none is the absence of one. Severity rises from CREW_ALERT to GENERAL. -/
inductive AlarmKind where
  | crewAlert
  | fire
  | general
  deriving DecidableEq, Repr

/-- The alarm word of a frame header (Table 1-1); bit n - 1 of the mask is fire zone n. -/
structure AlarmWord where
  mask : BitVec 16
  kind : Option AlarmKind
  deriving DecidableEq, Repr

/-- A control cell (Table 1-2). -/
structure Cell where
  dst : Byte
  src : Byte
  kind : Byte
  tag : Byte
  len : Byte
  status : Byte
  payload : List Byte
  deriving DecidableEq, Repr

/-- A port unit (section 1.2). `loss` counts the frame periods since the last good frame while the loss timer runs. `sent`
is the model's own: the frame last sent on the link. -/
structure Port where
  state : PortState
  good : Nat
  loss : Option Nat
  lt : Nat
  neighbour : Option Nat
  rxAlarm : Option AlarmWord
  crcErrors : Nat
  drops : Nat
  egress : List Cell
  sent : List Byte
  deriving DecidableEq, Repr

/-- A source of a stream (section 1.4). -/
inductive Source where
  | slot (port slot : Nat)
  | localIn (i : Nat)
  deriving DecidableEq, Repr

/-- R9: the state of a stream entry. -/
inductive StreamState where
  | unmapped
  | primary
  | backup
  | absent
  deriving DecidableEq, Repr

/-- A stream entry (section 1.4); a backup source is a port and slot. -/
structure Stream where
  state : StreamState
  primary : Option Source
  backup : Option (Nat × Nat)
  sample : Sample
  deriving DecidableEq, Repr

/-! Chapter 2: the cell handler -/

/-- R28: the authority classes. -/
inductive AuthClass where
  | config
  | bridge
  | operator
  deriving DecidableEq, Repr

/-- An authority table entry (R29): an identity and its class set. -/
structure AuthEntry where
  id : Nat
  config : Bool
  bridge : Bool
  operator : Bool
  deriving DecidableEq, Repr

/-- The cell handler's own state (chapter 2). -/
structure Node where
  id : Nat
  auth : List AuthEntry
  routes : List (Option Nat)
  report : Option Nat
  deriving DecidableEq, Repr

/-- Table 2-2: the reply codes. -/
inductive ReplyCode where
  | done
  | refusedFormat
  | refusedAuthority
  | refusedRange
  | refusedState
  | refusedBusy
  | refusedFull
  | refusedNospace
  | refusedZoneBusy
  | refusedAlarm
  deriving DecidableEq, Repr

/-! Chapter 3: the mix engine -/

/-- R41: the role of a bus. -/
inductive Role where
  | unused
  | zone
  | talk
  deriving DecidableEq, Repr

/-- A destination of a bus (Table 3-1). -/
inductive Dest where
  | slot (port slot : Nat)
  | localOut (j : Nat)
  deriving DecidableEq, Repr

/-- Table 3-2: how a current coefficient reaches its target. -/
inductive ChangeMode where
  | ramp
  | zeroCross
  | cut
  deriving DecidableEq, Repr

/-- A live crosspoint entry (Table 3-2). -/
structure XPoint where
  stream : Nat
  cur : Nat
  target : Nat
  mode : ChangeMode
  step : Option Nat
  pending : Option Nat
  wait : Nat
  prev : Sample
  retiring : Bool
  deriving DecidableEq, Repr

/-- A bus record (Table 3-1) with its delay line, oldest sample first, and its live crosspoint entries in list order. -/
structure Bus where
  role : Role
  zone : Option Nat
  dests : List Dest
  clips : Nat
  line : List Sample
  output : Sample
  live : List XPoint
  deriving DecidableEq, Repr

/-! Chapter 4: zones -/

/-- The kind of a zone (R63). -/
inductive ZoneKind where
  | cabin
  | publicRoom
  | crew
  | theatre
  deriving DecidableEq, Repr

/-- Table 4-3: the layer modes. -/
inductive LayerMode where
  | normal
  | voice
  | alarm
  | alarmVoice
  deriving DecidableEq, Repr

/-- A LOADED zone (Table 4-1), with its applied alarm kind (R130) and the compensation the ambient meter holds for it (R180).
An UNLOADED record holds nothing (R63). -/
structure Zone where
  kind : ZoneKind
  fireZone : Nat
  buses : List Nat
  duck : Nat
  threshold : Nat
  override : Nat
  layerStep : Nat
  sensor : Option Nat
  amp : Option Nat
  cabinLevel : Nat
  mode : LayerMode
  held : Bool
  kp : Nat
  kv : Nat
  ka : Nat
  kpTarget : Nat
  kvTarget : Nat
  kaTarget : Nat
  applied : Option AlarmKind
  compCur : Nat
  compTarget : Nat
  deriving DecidableEq, Repr

/-! Chapter 5: claims -/

/-- Table 5-2: the states of a claim in use. -/
inductive ClaimState where
  | queued
  | waking
  | chiming
  | live
  | suspended
  deriving DecidableEq, Repr

/-- R83: the grant of a claim in a target zone; `out` is the grant none. -/
inductive Grant where
  | out
  | waiting
  | head
  | audible
  deriving DecidableEq, Repr

/-- R102: why a claim ended. -/
inductive EndReason where
  | closed
  | timeLimit
  | sourceLost
  | bumped
  | preempted
  | reset
  deriving DecidableEq, Repr

/-- A claim record in use (Table 5-1). `all` is the grant rule ALL, `drop` the on-preempt choice DROP. -/
structure Claim where
  state : ClaimState
  origin : Nat
  originPort : Nat
  priority : Nat
  source : Nat
  targets : List (Nat × Grant)
  all : Bool
  wait : Bool
  drop : Bool
  chime : Option Nat
  limit : Nat
  started : Bool
  chimeSkipped : Bool
  voice : Option Nat
  timer : Option Nat
  watch : Nat
  rank : Nat
  deriving DecidableEq, Repr

/-- The claim table of 48 records and the claim list of each of the 96 zones (R81, R82). -/
structure Claims where
  table : List (Option Claim)
  lists : List (List Nat)
  deriving DecidableEq, Repr

/-! Chapter 6: tone voices -/

/-- R107: the holder of a tone voice. -/
inductive Holder where
  | free
  | signal (k : AlarmKind)
  | claim (c : Nat)
  deriving DecidableEq, Repr

/-- Table 6-1: the phase of the step. -/
inductive StepPhase where
  | on
  | off
  | ended
  deriving DecidableEq, Repr

/-- A tone voice (Table 6-1). -/
structure Voice where
  holder : Holder
  cadence : Option Nat
  step : Nat
  rep : Nat
  phase : StepPhase
  timer : Nat
  passes : Nat
  osc : Nat
  sample : Sample
  deriving DecidableEq, Repr

/-- A cadence step (Table 6-2). -/
structure CadStep where
  freq : Nat
  duty : Nat
  level : Nat
  onMs : Nat
  offMs : Nat
  count : Nat
  deriving DecidableEq, Repr

/-- A cadence (R108). -/
structure Cadence where
  repeats : Nat
  steps : List CadStep
  deriving DecidableEq, Repr

/-- The tone unit (chapter 6). -/
structure Tone where
  voices : List Voice
  cadences : List Cadence
  deriving DecidableEq, Repr

/-! Chapter 7: alarms -/

/-- A set of zone kinds (R122, R84). -/
structure KindSet where
  cabin : Bool
  publicRoom : Bool
  crew : Bool
  theatre : Bool
  deriving DecidableEq, Repr

/-- A signal record (Table 7-1). -/
structure Signal where
  cadence : Nat
  level : Nat
  duck : Nat
  kinds : KindSet
  deriving DecidableEq, Repr

/-- The alarm state of a fire zone (section 7.2); the contact kind follows from the contact latch. -/
structure FireZone where
  beacon : Option AlarmKind
  cell : Option AlarmKind
  resolved : Option AlarmKind
  deriving DecidableEq, Repr

/-- The alarm controller (chapter 7); `signals` holds CREW_ALERT, FIRE, GENERAL in that order, `fire` fire zones 1 to 16. -/
structure Alarm where
  signals : List Signal
  fire : List FireZone
  contactClosed : Bool
  contactCount : Nat
  contactLatch : Bool
  islandHold : Bool
  fallback : Bool
  deriving DecidableEq, Repr

/-! Chapter 8: intercom -/

/-- R139: the talk state of a member. -/
inductive TalkState where
  | idle
  | talking
  | suspended
  deriving DecidableEq, Repr

/-- A member of a talk group (Table 8-1). -/
structure Member where
  station : Nat
  stream : Nat
  bus : Nat
  gain : Nat
  prio : Bool
  latching : Bool
  timeout : Nat
  state : TalkState
  timer : Option Nat
  deriving DecidableEq, Repr

/-- A talk group (R139); `talkers` holds member indices in the order of admission. -/
structure Group where
  limit : Nat
  members : List Member
  talkers : List Nat
  deriving DecidableEq, Repr

/-- The intercom unit (chapter 8). -/
structure Talk where
  groups : List Group
  calling : List Nat
  deriving DecidableEq, Repr

/-! Chapter 9: show control -/

/-- A scene entry (R155). -/
structure SceneEntry where
  bus : Nat
  stream : Nat
  coef : Nat
  mode : ChangeMode
  deriving DecidableEq, Repr

/-- A scene (R155); bit b of the scope is bus b. -/
structure Scene where
  scope : BitVec 64
  entries : List SceneEntry
  deriving DecidableEq, Repr

/-- A LOADED cue (R157); the times are milliseconds. -/
structure Cue where
  scene : Nat
  crossfade : Nat
  autoFollow : Option Nat
  next : Option Nat
  deriving DecidableEq, Repr

/-- R162: the state of the cue engine. -/
inductive Engine where
  | idle
  | fading
  | settled
  deriving DecidableEq, Repr

/-- R166: the mode of a gate line. -/
inductive GateMode where
  | off
  | go
  | hold
  | stop
  deriving DecidableEq, Repr

/-- A gate line (R165): its input pin, its debounce setting in milliseconds, its mode, its debounced level and its debounce
count. -/
structure Gate where
  input : Bool
  setting : Nat
  mode : GateMode
  level : Bool
  count : Nat
  deriving DecidableEq, Repr

/-- Table 9-1: the sources of a status line. -/
inductive LineSource where
  | off
  | on
  | alarmAny
  | alarmGeneral
  | showStop
  | cueMark
  | theatreVoice
  | ampFaultAny
  | trunkLoss
  | island
  deriving DecidableEq, Repr

/-- R170: the width of a status line. -/
inductive LineWidth where
  | direct
  | stretch
  | latch
  deriving DecidableEq, Repr

/-- A status line (R170); the stretch time is in milliseconds, a stretch timer of 0 is stopped. -/
structure Line where
  source : LineSource
  width : LineWidth
  stretch : Nat
  level : Bool
  timer : Nat
  latched : Bool
  /-- R170: a LATCH line whose source has risen in the frame period at hand. -/
  rose : Bool
  deriving DecidableEq, Repr

/-- The show controller (chapter 9). -/
structure ShowCtl where
  scenes : List Scene
  cues : List (Option Cue)
  engine : Engine
  current : Option Nat
  watched : BitVec 64
  autoFollow : Option Nat
  /-- R163: the auto-follow timer has had its count of the frame period at hand. -/
  autoCounted : Bool
  cueMark : Option Nat
  showStop : Bool
  /-- R168: a gate line of mode STOP has risen in the frame period at hand. -/
  stopRose : Bool
  cueLatch : Bool
  gates : List Gate
  hold : Bool
  lines : List Line
  deriving DecidableEq, Repr

/-! Chapter 10: the ambient meter -/

/-- A sensor that is not UNUSED (Table 10-1). -/
structure Sensor where
  suspect : Bool
  input : Nat
  offset : Int
  low : Nat
  high : Nat
  curve : Nat
  compStep : Nat
  last : Option Nat
  deriving DecidableEq, Repr

/-- The window in progress (R178, R179): whether the frame period in which it began is still at hand (the model's own mark, log entry
47), the frame periods taken, the exact sum, the sensor's input and offset as they stood at its beginning, and its zone set with the
contamination marks. -/
structure Window where
  fresh : Bool
  elapsed : Nat
  sum : Nat
  input : Nat
  offset : Int
  zones : List (Nat × Bool)
  deriving DecidableEq, Repr

/-- The scan state (R177); SCANNING is the presence of a window. -/
structure Scan where
  continuous : Bool
  first : Nat
  last : Nat
  sensor : Nat
  window : Option Window
  deriving DecidableEq, Repr

/-- The ambient meter (chapter 10). -/
structure Ambient where
  sensors : List (Option Sensor)
  curves : List (List (Nat × Nat))
  scan : Scan
  deriving DecidableEq, Repr

/-! Chapter 11: amplifier power -/

/-- R183: the state of an amp group. -/
inductive AmpState where
  | on
  | quiet
  | standby
  | off
  | waking
  | fault
  deriving DecidableEq, Repr

/-- R188: the reason of a FAULT. -/
inductive FaultReason where
  | ampFault
  | noReady
  deriving DecidableEq, Repr

/-- An amp group record (Table 11-2) with the sampled levels of its READY and FAULT inputs. Idle thresholds and the demotion
window are seconds, wake limits milliseconds. -/
structure Amp where
  state : AmpState
  reason : Option FaultReason
  auto : Bool
  quietAfter : Nat
  standbyAfter : Nat
  offAfter : Nat
  wakeStandby : Nat
  wakeOff : Nat
  residency : Option Nat
  wakeTimer : Option Nat
  early : Nat
  threshold : Nat
  window : Nat
  windowTimer : Option Nat
  earlyFlag : Bool
  demand : Bool
  readyIn : Bool
  faultIn : Bool
  /-- R187: the window timer has had its count of the frame period at hand. -/
  windowCounted : Bool
  /-- R185: the idle residency has had its count of the frame period at hand. -/
  residencyCounted : Bool
  deriving DecidableEq, Repr

/-- The amplifier manager (chapter 11); the policy is the deepest allowed idle state, as its depth: 0 ON, 1 QUIET, 2 STANDBY,
3 OFF. -/
structure Power where
  groups : List Amp
  policy : Nat
  deriving DecidableEq, Repr

/-! Discrete lines and converters (Table 0-4) -/

/-- The pins that belong to no record: the reset input, the straps as last sampled, the alarm contact, the eight samples last
received from the converters and the eight last sent to them. -/
structure Pins where
  resetLow : Bool
  straps : BitVec 8
  contactIn : Bool
  localIn : List Sample
  localOut : List Sample
  deriving DecidableEq, Repr

end Sys2Proof.Machine
end

