-- ==== Sys2Proof/Machine/ResetValues.lean ====
section
/-! DEFINITION. The hardware-reset value of each block (R7, R15, R38, R61, R79, R105, R120, R137, R153, R172, R181, R192)
and the fixed tables of the part: the built-in cadences and the default signal records. -/

namespace Sys2Proof.Machine

/-- R7, R38: a port unit after hardware reset. -/
def portReset : Port :=
  { state := .down, good := 0, loss := none, lt := 3, neighbour := none, rxAlarm := none, crcErrors := 0, drops := 0,
    egress := [], sent := [] }

/-- R15: an UNMAPPED stream entry. -/
def streamReset : Stream := { state := .unmapped, primary := none, backup := none, sample := 0 }

/-- R38: the cell handler after a reset, with the node identity given. -/
def nodeReset (id : Nat) : Node := { id := id, auth := [], routes := List.replicate Config.routes none, report := none }

/-- R61: a bus record after a reset. -/
def busReset : Bus := { role := .unused, zone := none, dests := [], clips := 0, line := [], output := 0, live := [] }

/-- R105: the claim arbiter after a reset. -/
def claimsReset : Claims := { table := List.replicate Config.claims none, lists := List.replicate Config.zones [] }

/-- Table 6-1: the FREE values of a tone voice. -/
def voiceFree : Voice :=
  { holder := .free, cadence := none, step := 0, rep := 1, phase := .ended, timer := 0, passes := 0, osc := 0, sample := 0 }

/-- Table 6-3: the built-in cadences 0 (general emergency), 1 (fire) and 2 (crew alert). -/
def builtInCadences : List Cadence :=
  [{ repeats := 0,
     steps := [{ freq := 800, duty := 50, level := 16384, onMs := 1000, offMs := 1000, count := 7 },
               { freq := 800, duty := 50, level := 16384, onMs := 6000, offMs := 2000, count := 1 }] },
   { repeats := 0, steps := [{ freq := 1000, duty := 50, level := 16384, onMs := 500, offMs := 500, count := 1 }] },
   { repeats := 0,
     steps := [{ freq := 600, duty := 50, level := 16384, onMs := 250, offMs := 250, count := 3 },
               { freq := 0, duty := 50, level := 16384, onMs := 2000, offMs := 0, count := 1 }] }]

/-- R108: an empty cadence. -/
def cadenceEmpty : Cadence := { repeats := 0, steps := [] }

/-- R120: the tone unit after a reset. -/
def toneReset : Tone :=
  { voices := List.replicate Config.voices voiceFree, cadences := builtInCadences ++ List.replicate 29 cadenceEmpty }

/-- Table 7-1: the default signal records of CREW_ALERT, FIRE and GENERAL. -/
def defaultSignals : List Signal :=
  [{ cadence := 2, level := 16384, duck := 4096,
     kinds := { cabin := false, publicRoom := false, crew := true, theatre := false } },
   { cadence := 1, level := 16384, duck := 4096,
     kinds := { cabin := true, publicRoom := true, crew := true, theatre := true } },
   { cadence := 0, level := 16384, duck := 4096,
     kinds := { cabin := true, publicRoom := true, crew := true, theatre := true } }]

/-- R137: the alarm controller after a reset; the fallback flag is set by hardware reset alone (R135). -/
def alarmReset (fallback : Bool) : Alarm :=
  { signals := defaultSignals,
    fire := List.replicate Config.fireZones { beacon := none, cell := none, resolved := none },
    contactClosed := false, contactCount := 0, contactLatch := false, islandHold := false, fallback := fallback }

/-- R153: the intercom unit after a reset. -/
def talkReset : Talk :=
  { groups := List.replicate Config.groups { limit := 4, members := [], talkers := [] },
    calling := List.replicate Config.streams 0 }

/-- R172: a gate line after a reset; its input pin is not the part's to reset. -/
def gateReset (input : Bool) : Gate := { input := input, setting := 0, mode := .off, level := false, count := 0 }

/-- R172: a status line after a reset. -/
def lineReset : Line := { source := .off, width := .direct, stretch := 1, level := false, timer := 0, latched := false, rose := false }

/-- R172: the show controller after a reset, its gate input pins given. -/
def showReset (gateInputs : List Bool) : ShowCtl :=
  { scenes := List.replicate Config.scenes { scope := 0, entries := [] }, cues := List.replicate Config.cues none,
    engine := .idle, current := none, watched := 0, autoFollow := none, autoCounted := false, cueMark := none,
    showStop := false, stopRose := false, cueLatch := false, gates := gateInputs.map gateReset, hold := false, lines := List.replicate 4 lineReset }

/-- R181: the ambient meter after a reset. -/
def ambientReset : Ambient :=
  { sensors := List.replicate Config.sensors none, curves := List.replicate Config.sensors [],
    scan := { continuous := false, first := 0, last := 7, sensor := 0, window := none } }

/-- R192: an amp group after a reset, its input levels given; a high FAULT input puts it in FAULT at the end of the reset. -/
def ampReset (ready fault : Bool) : Amp :=
  { state := if fault then .fault else .off, reason := if fault then some .ampFault else none, auto := false,
    quietAfter := 10, standbyAfter := 300, offAfter := 0, wakeStandby := 500, wakeOff := 3000, residency := none,
    wakeTimer := none, early := 0, threshold := 3, window := 60, windowTimer := if fault then none else some 0,
    earlyFlag := false, demand := false, readyIn := ready, faultIn := fault,
    windowCounted := false, residencyCounted := false }

/-- R192: an amp group held OFF while the reset input is low, its input levels kept. -/
def ampHeld (ready fault : Bool) : Amp := { ampReset ready false with faultIn := fault }

/-- R192: the policy after a reset is STANDBY. -/
def policyReset : Nat := 2

end Sys2Proof.Machine
end

