-- ==== Sys2Proof/Machine/State.lean ====
section
/-! DEFINITION. The state of the part: its twelve blocks (Table 0-2), its pins and the queue of commands that wait. -/

namespace Sys2Proof.Machine

/-- The whole state of the part. -/
structure State where
  /-- The six port units (chapter 1). -/
  ports : List Port
  /-- The 128 stream entries (section 1.4). -/
  streams : List Stream
  /-- The cell handler (chapter 2). -/
  node : Node
  /-- The 64 bus records with their lines and live crosspoints (chapter 3). -/
  buses : List Bus
  /-- The 96 zone records, none where UNLOADED (chapter 4). -/
  zones : List (Option Zone)
  /-- The claim table and the claim lists (chapter 5). -/
  claims : Claims
  /-- The tone voices and the cadence table (chapter 6). -/
  tone : Tone
  /-- The alarm controller (chapter 7). -/
  alarm : Alarm
  /-- The intercom unit (chapter 8). -/
  talk : Talk
  /-- The show controller (chapter 9). -/
  showCtl : ShowCtl
  /-- The ambient meter (chapter 10). -/
  ambient : Ambient
  /-- The amplifier manager (chapter 11). -/
  power : Power
  /-- The discrete lines and converters (Table 0-4). -/
  pins : Pins
  /-- The model's own: the commands that wait, first in, first out. -/
  pending : List Instr
  deriving DecidableEq, Repr

/-- What stops the part: nothing. The spec names no event that stops it (a request that fails a check is answered with a code, an
amp group's FAULT is a state of that group), so no constructor stands here and no step faults. -/
inductive Fault where
  deriving DecidableEq, Repr

/-- What the model refuses. -/
inductive Refusal where
  /-- Raised by exec's arm of a command that has no meaning yet; safe: nothing is claimed of it. No arm raises it now. -/
  | notModelled (mnemonic : String)
  deriving DecidableEq, Repr

/-- DESIGN CHOICE (log entries 3, 4, 12; unsafe): right after a hardware reset with every strap open, every input line low or
open, and nothing yet received from or sent to the converters. Every other value is the spec's. -/
def State.reset : State :=
  { ports := List.replicate Config.ports portReset
    streams := List.replicate Config.streams streamReset
    node := nodeReset 0
    buses := List.replicate Config.buses busReset
    zones := List.replicate Config.zones none
    claims := claimsReset
    tone := toneReset
    alarm := alarmReset true
    talk := talkReset
    showCtl := showReset (List.replicate 4 false)
    ambient := ambientReset
    power := { groups := List.replicate Config.ampGroups (ampReset false false), policy := policyReset }
    pins := { resetLow := false, straps := 0, contactIn := false, localIn := List.replicate 8 0,
              localOut := List.replicate 8 0 }
    pending := [] }

/-- Replace the port units. -/
def State.setPorts (s : State) (x : List Port) : State := { s with ports := x }
/-- Replace the stream table. -/
def State.setStreams (s : State) (x : List Stream) : State := { s with streams := x }
/-- Replace the cell handler's state. -/
def State.setNode (s : State) (x : Node) : State := { s with node := x }
/-- Replace the bus records. -/
def State.setBuses (s : State) (x : List Bus) : State := { s with buses := x }
/-- Replace the zone records. -/
def State.setZones (s : State) (x : List (Option Zone)) : State := { s with zones := x }
/-- Replace the claim arbiter's state. -/
def State.setClaims (s : State) (x : Claims) : State := { s with claims := x }
/-- Replace the tone unit's state. -/
def State.setTone (s : State) (x : Tone) : State := { s with tone := x }
/-- Replace the alarm controller's state. -/
def State.setAlarm (s : State) (x : Alarm) : State := { s with alarm := x }
/-- Replace the intercom unit's state. -/
def State.setTalk (s : State) (x : Talk) : State := { s with talk := x }
/-- Replace the show controller's state. -/
def State.setShow (s : State) (x : ShowCtl) : State := { s with showCtl := x }
/-- Replace the ambient meter's state. -/
def State.setAmbient (s : State) (x : Ambient) : State := { s with ambient := x }
/-- Replace the amplifier manager's state. -/
def State.setPower (s : State) (x : Power) : State := { s with power := x }
/-- Replace the pins. -/
def State.setPins (s : State) (x : Pins) : State := { s with pins := x }
/-- Replace the queue of waiting commands. -/
def State.setPending (s : State) (x : List Instr) : State := { s with pending := x }

end Sys2Proof.Machine
end

