-- ==== Sys2Proof/Machine/Ops.lean ====
section
/-! DEFINITION. The integer arithmetic of the part (section 0.6, R40), and the access to the numbered records that every
block shares. -/

namespace Sys2Proof.Machine

/-! Arithmetic -/

/-- Section 0.6.4: x rounded with respect to the divisor 16,384, ties toward plus infinity. -/
def round14 (x : Int) : Int := (x + 8192) / 16384

/-- R56: the nearest value of the sample range. -/
def saturate (x : Int) : Int := max (-8388608) (min 8388607 x)

/-- Section 0.6.5: the coefficient product, capped at 32,767. -/
def product (a b : Nat) : Nat := min 32767 ((a * b + 8192) / 16384)

/-- Section 0.6.6: a counter counts one more and stays at 65,535. -/
def bump16 (n : Nat) : Nat := min 65535 (n + 1)

/-- R31: the nearest value of a range. -/
def clamp (lo hi n : Nat) : Nat := max lo (min hi n)

/-- R31: the nearest value of a signed range. -/
def clampInt (lo hi n : Int) : Int := max lo (min hi n)

/-- R58, R180: a value moved toward its target by a step, landing on it when no more than a step remains. -/
def moveToward (cur target step : Nat) : Nat :=
  if cur ≤ target then (if target - cur ≤ step then target else cur + step)
  else (if cur - target ≤ step then target else cur - step)

/-- The distance of two coefficients. -/
def distance (a b : Nat) : Nat := (a - b) + (b - a)

/-- The value of a 24-bit two's complement number. -/
def sampleOfBits (b : BitVec 24) : Sample := b.toInt

/-! Timers. DESIGN CHOICE (log entry 1): a command that names the end of a count acts in the frame period that brings the count to
its limit, ahead of the tick of that frame period, and changes nothing in any other. A count that goes on behind its end is marked
as counted, and the tick of that frame period passes it over (log entry 46). -/

/-- A running timer that counts down reaches 0 in this frame period. -/
def runsOut (t : Option Nat) : Bool := t.any (fun n => decide (n ≤ 1))

/-- A running timer that counts up reaches its limit in this frame period. -/
def fillsUp (limit : Nat) (t : Option Nat) : Bool := t.any (fun n => decide (limit ≤ n + 1))

/-- R127, R165: an input that differs from its debounced level in this frame period brings the debounce count to its length. -/
def debounced (length count : Nat) : Bool := decide (length ≤ count + 1)

/-! Loops over numbered records, in rising order -/

/-- Do f for 0, 1, ... , n - 1 in that order. -/
def forUpTo {σ : Type} (n : Nat) (f : Nat → σ → σ) (s : σ) : σ := (List.range n).foldl (fun acc i => f i acc) s

/-- Do f for each member of a list, in list order. -/
def forEach {α σ : Type} (l : List α) (f : α → σ → σ) (s : σ) : σ := l.foldl (fun acc a => f a acc) s

/-- The members of a set given as a mask, in rising order. -/
def membersOf {w : Nat} (m : BitVec w) : List Nat := (List.range w).filter (fun i => m.getLsbD i)

/-! Records by number -/

/-- Port p. -/
def State.port (s : State) (p : Nat) : Port := s.ports.getD p portReset
/-- Change port p. -/
def State.modPort (s : State) (p : Nat) (f : Port → Port) : State := s.setPorts (s.ports.modify p f)
/-- Stream n. -/
def State.stream (s : State) (n : Nat) : Stream := s.streams.getD n streamReset
/-- Bus b. -/
def State.bus (s : State) (b : Nat) : Bus := s.buses.getD b busReset
/-- Change bus b. -/
def State.modBus (s : State) (b : Nat) (f : Bus → Bus) : State := s.setBuses (s.buses.modify b f)
/-- Zone z, none where it is UNLOADED. -/
def State.zone (s : State) (z : Nat) : Option Zone := s.zones.getD z none
/-- Change zone z where it is LOADED. -/
def State.modZone (s : State) (z : Nat) (f : Zone → Zone) : State := s.setZones (s.zones.modify z (Option.map f))
/-- Claim record c, none where it is FREE. -/
def State.claim (s : State) (c : Nat) : Option Claim := s.claims.table.getD c none
/-- Change claim c where it is in use. -/
def State.modClaim (s : State) (c : Nat) (f : Claim → Claim) : State :=
  s.setClaims { s.claims with table := s.claims.table.modify c (Option.map f) }
/-- The claim list of zone z. -/
def State.claimList (s : State) (z : Nat) : List Nat := s.claims.lists.getD z []
/-- Tone voice v. -/
def State.voice (s : State) (v : Nat) : Voice := s.tone.voices.getD v voiceFree
/-- Change tone voice v. -/
def State.modVoice (s : State) (v : Nat) (f : Voice → Voice) : State :=
  s.setTone { s.tone with voices := s.tone.voices.modify v f }
/-- Cadence n. -/
def State.cadence (s : State) (n : Nat) : Cadence := s.tone.cadences.getD n cadenceEmpty
/-- Talk group g. -/
def State.group (s : State) (g : Nat) : Group := s.talk.groups.getD g { limit := 4, members := [], talkers := [] }
/-- Change talk group g. -/
def State.modGroup (s : State) (g : Nat) (f : Group → Group) : State :=
  s.setTalk { s.talk with groups := s.talk.groups.modify g f }
/-- Fire zone f, 1 to 16. -/
def State.fireZone (s : State) (f : Nat) : FireZone :=
  s.alarm.fire.getD (f - 1) { beacon := none, cell := none, resolved := none }
/-- Change the fire zone that stands at index i, 0 to 15. -/
def State.modFire (s : State) (i : Nat) (f : FireZone → FireZone) : State :=
  s.setAlarm { s.alarm with fire := s.alarm.fire.modify i f }
/-- Scene n. -/
def State.scene (s : State) (n : Nat) : Scene := s.showCtl.scenes.getD n { scope := 0, entries := [] }
/-- Cue n, none where it is UNLOADED. -/
def State.cue (s : State) (n : Nat) : Option Cue := s.showCtl.cues.getD n none
/-- Gate line n. -/
def State.gate (s : State) (n : Nat) : Gate := s.showCtl.gates.getD n (gateReset false)
/-- Change gate line n. -/
def State.modGate (s : State) (n : Nat) (f : Gate → Gate) : State :=
  s.setShow { s.showCtl with gates := s.showCtl.gates.modify n f }
/-- Status line n. -/
def State.line (s : State) (n : Nat) : Line := s.showCtl.lines.getD n lineReset
/-- Change status line n. -/
def State.modLine (s : State) (n : Nat) (f : Line → Line) : State :=
  s.setShow { s.showCtl with lines := s.showCtl.lines.modify n f }
/-- Sensor n, none where it is UNUSED. -/
def State.sensor (s : State) (n : Nat) : Option Sensor := s.ambient.sensors.getD n none
/-- Curve n. -/
def State.curve (s : State) (n : Nat) : List (Nat × Nat) := s.ambient.curves.getD n []
/-- Amp group g. -/
def State.amp (s : State) (g : Nat) : Amp := s.power.groups.getD g (ampReset false false)
/-- Change amp group g. -/
def State.modAmp (s : State) (g : Nat) (f : Amp → Amp) : State :=
  s.setPower { s.power with groups := s.power.groups.modify g f }

/-! Alarm kinds -/

/-- Table 1-1: the number of an alarm kind, 0 for none; it rises with severity (chapter 7). -/
def kindNum : Option AlarmKind → Nat
  | none => 0
  | some .crewAlert => 1
  | some .fire => 2
  | some .general => 3

/-- Table 1-1: the kind byte of a frame header; a value above 3 is read as GENERAL. -/
def kindOfNum : Nat → Option AlarmKind
  | 0 => none
  | 1 => some .crewAlert
  | 2 => some .fire
  | _ => some .general

/-- Chapter 7: the higher of two kinds. -/
def higher (a b : Option AlarmKind) : Option AlarmKind := if kindNum a < kindNum b then b else a

/-- The index of a kind's signal record (Table 2-5): 0 CREW_ALERT, 1 FIRE, 2 GENERAL. -/
def signalIndex : AlarmKind → Nat
  | .crewAlert => 0
  | .fire => 1
  | .general => 2

/-- The signal record of a kind. -/
def State.signal (s : State) (k : AlarmKind) : Signal :=
  s.alarm.signals.getD (signalIndex k)
    { cadence := 0, level := 0, duck := 0, kinds := { cabin := false, publicRoom := false, crew := false, theatre := false } }

/-- Whether a set of zone kinds holds a kind. -/
def KindSet.has (k : KindSet) : ZoneKind → Bool
  | .cabin => k.cabin
  | .publicRoom => k.publicRoom
  | .crew => k.crew
  | .theatre => k.theatre

/-- R39: the set of zone kinds of a mask, CABIN in bit 0, PUBLIC in bit 1, CREW in bit 2, THEATRE in bit 3. -/
def kindSetOf (mask : Nat) : KindSet :=
  { cabin := mask.testBit 0, publicRoom := mask.testBit 1, crew := mask.testBit 2, theatre := mask.testBit 3 }

/-- R39: the mask of a set of zone kinds. -/
def kindMask (k : KindSet) : Nat :=
  k.cabin.toNat + 2 * k.publicRoom.toNat + 4 * k.crew.toNat + 8 * k.theatre.toNat

end Sys2Proof.Machine
end

