-- ==== Sys2Proof/Machine/Wire.lean ====
section
/-! DEFINITION. Bytes on the link: numbers most significant byte first, the CRC-16 of R1, the link frame of Table 1-1 and the
control cell of Table 1-2. -/

namespace Sys2Proof.Machine

/-- R39: a number in w bytes, most significant byte first. -/
def beBytes : Nat → Nat → List Byte
  | 0, _ => []
  | w + 1, n => byteOf (n / 256 ^ w) :: beBytes w n

/-- The number that bytes hold, most significant byte first. -/
def beNat (bs : List Byte) : Nat := bs.foldl (fun n b => n * 256 + b.toNat) 0

/-- Table 1-1: a sample in three bytes of two's complement. -/
def sampleBytes (x : Sample) : List Byte := beBytes 3 (BitVec.ofInt 24 x).toNat

/-- Table 1-1: the sample that three bytes hold. -/
def sampleOf (bs : List Byte) : Sample := sampleOfBits (BitVec.ofNat 24 (beNat bs))

/-! The frame check word -/

/-- R1: the check register after one more bit position; the generator is x^16 + x^12 + x^5 + 1. -/
def crcShift (r : BitVec 16) : BitVec 16 := if r.msb then (r <<< 1) ^^^ 0x1021#16 else r <<< 1

/-- R1: the check register after one more byte, most significant bit first. -/
def crcByte (r : BitVec 16) (b : Byte) : BitVec 16 :=
  let r := r ^^^ ((b.setWidth 16) <<< 8)
  crcShift (crcShift (crcShift (crcShift (crcShift (crcShift (crcShift (crcShift r)))))))

/-- R1: the check word of bytes, the register preset to 65,535. -/
def crc16 (bs : List Byte) : BitVec 16 := bs.foldl crcByte 0xFFFF#16

/-- Bytes at to at + n - 1. -/
def field (bs : List Byte) (at' n : Nat) : List Byte := (bs.drop at').take n

/-- R1: whether a reception is a good frame. -/
def frameGood (bs : List Byte) : Bool :=
  bs.length == 112 && bs.getD 0 0 == 167#8 && bs.getD 1 0 == 60#8
    && beNat (field bs 110 2) == (crc16 (field bs 2 108)).toNat

/-! The frame (Table 1-1) and the cell (Table 1-2) -/

/-- R4: the sender identity of a frame. -/
def frameSender (bs : List Byte) : Nat := (bs.getD 2 0).toNat

/-- R4: the alarm word of a frame, a kind byte above 3 read as GENERAL. -/
def frameAlarm (bs : List Byte) : AlarmWord :=
  { mask := BitVec.ofNat 16 (beNat (field bs 3 2)), kind := kindOfNum (bs.getD 5 0).toNat }

/-- R11: the sample of slot k of a frame. -/
def frameSlot (bs : List Byte) (k : Nat) : Sample := sampleOf (field bs (6 + 3 * k) 3)

/-- Table 1-2: the cell that 32 bytes hold. -/
def cellOfBytes (bs : List Byte) : Cell :=
  { dst := bs.getD 0 0, src := bs.getD 1 0, kind := bs.getD 2 0, tag := bs.getD 3 0, len := bs.getD 4 0,
    status := bs.getD 5 0, payload := field bs 6 26 }

/-- R4: the control cell of a frame. -/
def frameCell (bs : List Byte) : Cell := cellOfBytes (field bs 78 32)

/-- Table 1-2: the 32 bytes of a cell, its payload made 26 bytes long. -/
def cellBytes (c : Cell) : List Byte :=
  [c.dst, c.src, c.kind, c.tag, c.len, c.status] ++ (c.payload ++ List.replicate 26 0).take 26

/-- Section 1.1, R16: the empty cell, destination 0 and kind NONE; its status, and its payload beyond the length, are 0 (Table 1-2).
DESIGN CHOICE (log entry 36): its source, tag and payload length, which no rule gives, are 0 for every node identity. -/
def emptyCell : Cell :=
  { dst := 0, src := 0, kind := 0, tag := 0, len := 0, status := 0, payload := List.replicate 26 0 }

/-- R16: a frame of a sender, an alarm word, 24 slot samples and a cell, closed by its check word. -/
def frameBytes (sender : Nat) (mask : BitVec 16) (kind : Nat) (slots : List Sample) (cell : Cell) : List Byte :=
  let body := byteOf sender :: beBytes 2 mask.toNat ++ [byteOf kind] ++ slots.flatMap sampleBytes ++ cellBytes cell
  [167#8, 60#8] ++ body ++ beBytes 2 (crc16 body).toNat

/-- R32, R39: a cell the part composes; payload bytes beyond the payload length are 0. -/
def composeCell (dst src kind tag status : Nat) (payload : List Byte) : Cell :=
  { dst := byteOf dst, src := byteOf src, kind := byteOf kind, tag := byteOf tag, len := byteOf payload.length,
    status := byteOf status, payload := (payload ++ List.replicate 26 0).take 26 }

/-- R39: a field that may also be none, in w bytes; the largest number of the width stands for none. -/
def optBytes (w : Nat) : Option Nat → List Byte
  | some n => beBytes w n
  | none => beBytes w (256 ^ w - 1)

/-- R39: a flag, 0 for clear. DESIGN CHOICE (log entry 37): of the values R39 allows for set, the part sends 1. -/
def flagByte (b : Bool) : List Byte := [byteOf b.toNat]

/-- R39: the kind codes of REPLY and of the notices. -/
def kindReply : Nat := 128
/-- R39: the kind code of CLAIM-NOTICE. -/
def kindClaimNotice : Nat := 129
/-- R39: the kind code of TALK-NOTICE. -/
def kindTalkNotice : Nat := 130
/-- R39: the kind code of EVENT-NOTICE. -/
def kindEventNotice : Nat := 131

/-- R39: the status byte of a REPLY, 0 for DONE and the precedence number of Table 2-2 for a refusal. -/
def ReplyCode.num : ReplyCode → Nat
  | .done => 0
  | .refusedFormat => 1
  | .refusedAuthority => 2
  | .refusedRange => 3
  | .refusedState => 4
  | .refusedBusy => 5
  | .refusedFull => 6
  | .refusedNospace => 7
  | .refusedZoneBusy => 8
  | .refusedAlarm => 9

end Sys2Proof.Machine
end

