-- ==== Sys2Proof/Decode.lean ====
section
/-! DEFINITION. Reading commands. No row of spec/opcode_table.json gives bits, so no word of the table spells a command. What
the spec does lay out is the request cell (R39): the kind code and the payload of every request, read here and written by the
encoder after it. -/

namespace Sys2Proof

open Sys2Proof.Machine

/-- The command a table word spells: none, since no row of the table gives bits. -/
def decodeTableWord (_nbits _w : Nat) : Option Instr := none

/-! Fields (R39) -/

/-- A number in two bytes. -/
def num2 (a b : Byte) : Nat := a.toNat * 256 + b.toNat

/-- A number in three bytes. -/
def num3 (a b c : Byte) : Nat := (a.toNat * 256 + b.toNat) * 256 + c.toNat

/-- A number of a width, whose largest value stands for none, absent or DEFAULT. -/
def optOf (w n : Nat) : Option Nat := if n = 256 ^ w - 1 then none else some n

/-- A flag: any value but 0 is set. -/
def flagOf (b : Byte) : Bool := b != 0

/-- A location in three bytes. -/
def locOf (f n k : Byte) : RawLoc := { form := f.toNat, num := n.toNat, slot := k.toNat }

/-- That many locations and nothing more. -/
def decodeLocs : Nat → List Byte → Option (List RawLoc)
  | 0, [] => some []
  | n + 1, f :: m :: k :: rest => (decodeLocs n rest).map (fun l => locOf f m k :: l)
  | _, _ => none

/-- That many cadence steps and nothing more (R109). -/
def decodeSteps : Nat → List Byte → Option (List RawStep)
  | 0, [] => some []
  | n + 1, f1 :: f2 :: d :: l1 :: l2 :: o1 :: o2 :: p1 :: p2 :: c :: rest =>
    (decodeSteps n rest).map (fun l =>
      { freq := num2 f1 f2, duty := d.toNat, level := num2 l1 l2, onMs := num2 o1 o2, offMs := num2 p1 p2,
        count := c.toNat } :: l)
  | _, _ => none

/-- That many members and nothing more (R141). -/
def decodeMembers : Nat → List Byte → Option (List RawMember)
  | 0, [] => some []
  | n + 1, st :: str :: b :: g1 :: g2 :: p :: la :: t1 :: t2 :: rest =>
    (decodeMembers n rest).map (fun l =>
      { station := st.toNat, stream := str.toNat, bus := b.toNat, gain := num2 g1 g2, prio := flagOf p, latching := flagOf la,
        timeout := num2 t1 t2 } :: l)
  | _, _ => none

/-- That many scene entries and nothing more (R156). -/
def decodeEntries : Nat → List Byte → Option (List RawEntry)
  | 0, [] => some []
  | n + 1, b :: str :: c1 :: c2 :: m :: rest =>
    (decodeEntries n rest).map (fun l =>
      { bus := b.toNat, stream := str.toNat, coef := num2 c1 c2, mode := m.toNat } :: l)
  | _, _ => none

/-- That many breakpoints and nothing more (R176). -/
def decodePoints : Nat → List Byte → Option (List (Nat × Nat))
  | 0, [] => some []
  | n + 1, t1 :: t2 :: t3 :: c1 :: c2 :: rest =>
    (decodePoints n rest).map (fun l => (num3 t1 t2 t3, num2 c1 c2) :: l)
  | _, _ => none

/-! Requests -/

/-- What a cell taken locally is read as (R22): a failure of the format check, a request whose action, form, scope, item or line
is out of its range (which its class check precedes), or a command. -/
inductive Decoded where
  | badFormat
  | badChoice (cls : AuthClass)
  | command (i : Instr)
  deriving DecidableEq, Repr

/-- A list that was read, or a failure of the format check. -/
def Decoded.ofList {α : Type} (l : Option α) (f : α → Instr) : Decoded :=
  match l with
  | some x => .command (f x)
  | none => .badFormat

/-- R13: LOAD-STREAM. -/
def decodeStream (h : ReqHdr) : List Byte → Decoded
  | n :: a :: rest =>
    if a = 0 then match rest with
      | [f, m, k, f', m', k'] => .command (.loadStreamMap h n.toNat (locOf f m k) (locOf f' m' k'))
      | _ => .badFormat
    else if a = 1 then (if rest = [] then .command (.loadStreamUnmap h n.toNat) else .badFormat)
    else .badChoice .config
  | _ => .badFormat

/-- R36: CLEAR-COUNTS. -/
def decodeClear (h : ReqHdr) : List Byte → Decoded
  | sc :: rest =>
    if sc = 0 then match rest with
      | [p] => .command (.clearCountsPort h p.toNat)
      | _ => .badFormat
    else if sc = 1 then match rest with
      | [b] => .command (.clearCountsBus h b.toNat)
      | _ => .badFormat
    else if sc = 2 then (if rest = [] then .command (.clearCountsEvery h) else .badFormat)
    else .badChoice .config
  | _ => .badFormat

/-- R37: RESET-NODE. -/
def decodeReset (h : ReqHdr) : List Byte → Decoded
  | [sc] => if sc = 0 then .command (.resetNodeJobs h) else if sc = 1 then .command (.resetNodeAll h) else .badChoice .config
  | _ => .badFormat

/-- R64: the fields of a LOAD that follow the count of buses. -/
def decodeZoneLoad (h : ReqHdr) (z k f : Byte) (count : Nat) (rest : List Byte) : Decoded :=
  match rest.drop count with
  | [d1, d2, t, o1, o2, l1, l2, se, am] =>
    .command (.loadZoneLoad h z.toNat k.toNat f.toNat ((rest.take count).map BitVec.toNat) (optOf 2 (num2 d1 d2))
      (optOf 1 t.toNat) (optOf 2 (num2 o1 o2)) (optOf 2 (num2 l1 l2)) (optOf 1 se.toNat) (optOf 1 am.toNat))
  | _ => .badFormat

/-- R64: LOAD-ZONE. -/
def decodeZone (h : ReqHdr) : List Byte → Decoded
  | z :: a :: rest =>
    if a = 0 then match rest with
      | k :: f :: c :: rest => decodeZoneLoad h z k f c.toNat rest
      | _ => .badFormat
    else if a = 1 then (if rest = [] then .command (.loadZoneUnload h z.toNat) else .badFormat)
    else .badChoice .config
  | _ => .badFormat

/-- R84: the fields of a PAGE-OPEN that follow its set. -/
def decodePageTail (h : ReqHdr) (p src : Byte) (t : PageTarget) : List Byte → Decoded
  | [g, w, o, c, l1, l2] =>
    .command (.pageOpen h p.toNat src.toNat t g.toNat (flagOf w) o.toNat (optOf 1 c.toNat) (num2 l1 l2))
  | _ => .badFormat

/-- R84: PAGE-OPEN; the form is 0 ZONES, 1 KINDS. -/
def decodePage (h : ReqHdr) : List Byte → Decoded
  | p :: src :: form :: rest =>
    if form = 0 then
      (if rest.length = 18 then decodePageTail h p src (.zones (BitVec.ofNat 96 (beNat (rest.take 12)))) (rest.drop 12)
       else .badFormat)
    else if form = 1 then match rest with
      | k :: rest => decodePageTail h p src (.kinds k.toNat) rest
      | [] => .badFormat
    else .badChoice (if p.toNat < 7 then .operator else .bridge)
  | _ => .badFormat

/-- R128: ALARM-CLEAR; the source is 0 CELL, 1 CONTACT. -/
def decodeAlarmClear (h : ReqHdr) : List Byte → Decoded
  | src :: rest =>
    if src = 0 then match rest with
      | [a, b] => .command (.alarmClearCell h (BitVec.ofNat 16 (num2 a b)))
      | _ => .badFormat
    else if src = 1 then (if rest = [] then .command (.alarmClearContact h) else .badFormat)
    else .badChoice .bridge
  | _ => .badFormat

/-- R143: TALK-KEY; the action is 0 ON, 1 OFF. -/
def decodeKey (h : ReqHdr) : List Byte → Decoded
  | [g, a] =>
    if a = 0 then .command (.talkKeyOn h g.toNat) else if a = 1 then .command (.talkKeyOff h g.toNat)
    else .badChoice .operator
  | _ => .badFormat

/-- R156: LOAD-SCENE; the action is 0 SCOPE, 1 ENTRIES. -/
def decodeScene (h : ReqHdr) : List Byte → Decoded
  | n :: a :: rest =>
    if a = 0 then
      (if rest.length = 8 then .command (.loadSceneScope h n.toNat (BitVec.ofNat 64 (beNat rest))) else .badFormat)
    else if a = 1 then match rest with
      | f :: c :: rest => .ofList (decodeEntries c.toNat rest) (fun l => .loadSceneEntries h n.toNat (flagOf f) l)
      | _ => .badFormat
    else .badChoice .config
  | _ => .badFormat

/-- R157: LOAD-CUE; the action is 0 LOAD, 1 UNLOAD, 2 MARK. -/
def decodeCue (h : ReqHdr) : List Byte → Decoded
  | a :: rest =>
    if a = 0 then match rest with
      | [n, sc, x1, x2, f1, f2, nx] =>
        .command (.loadCueLoad h n.toNat sc.toNat (num2 x1 x2) (optOf 2 (num2 f1 f2)) (optOf 1 nx.toNat))
      | _ => .badFormat
    else if a = 1 then match rest with
      | [n] => .command (.loadCueUnload h n.toNat)
      | _ => .badFormat
    else if a = 2 then match rest with
      | [n] => .command (.loadCueMark h (optOf 1 n.toNat))
      | _ => .badFormat
    else .badChoice .config
  | _ => .badFormat

/-- R171: LOAD-LINE; lines 0 to 3 are gate lines, 4 to 7 status lines. -/
def decodeLine (h : ReqHdr) : List Byte → Decoded
  | l :: rest =>
    if l.toNat ≤ 3 then match rest with
      | [d, m] => .command (.loadLineGate h l.toNat d.toNat m.toNat)
      | _ => .badFormat
    else if l.toNat ≤ 7 then match rest with
      | [src, w, t] => .command (.loadLineStatus h l.toNat src.toNat w.toNat t.toNat)
      | _ => .badFormat
    else .badChoice .config
  | _ => .badFormat

/-- R168: SHOW-CLEAR; the item is 0 SHOW_STOP, 1 CUE_MARK, 2 LINES. -/
def decodeShowClear (h : ReqHdr) : List Byte → Decoded
  | [i] =>
    if i = 0 then .command (.showClearShowStop h) else if i = 1 then .command (.showClearCueMark h)
    else if i = 2 then .command (.showClearLines h) else .badChoice .operator
  | _ => .badFormat

/-- R175: LOAD-SENSOR; the action is 0 LOAD, 1 UNLOAD. -/
def decodeSensor (h : ReqHdr) : List Byte → Decoded
  | n :: a :: rest =>
    if a = 0 then match rest with
      | [i, o1, o2, l1, l2, l3, u1, u2, u3, c, s1, s2] =>
        .command (.loadSensorLoad h n.toNat i.toNat (BitVec.ofNat 16 (num2 o1 o2)).toInt (num3 l1 l2 l3) (num3 u1 u2 u3) c.toNat
          (optOf 2 (num2 s1 s2)))
      | _ => .badFormat
    else if a = 1 then (if rest = [] then .command (.loadSensorUnload h n.toNat) else .badFormat)
    else .badChoice .config
  | _ => .badFormat

/-- R177: SCAN; the action is 0 START, 1 STOP. -/
def decodeScan (h : ReqHdr) : List Byte → Decoded
  | a :: rest =>
    if a = 0 then match rest with
      | [f, l, m] => .command (.scanStart h f.toNat l.toNat m.toNat)
      | _ => .badFormat
    else if a = 1 then (if rest = [] then .command (.scanStop h) else .badFormat)
    else .badChoice .operator
  | _ => .badFormat

/-- R6: LOAD-PORT. -/
def decodePort (h : ReqHdr) : List Byte → Decoded
  | [n, lt] => .command (.loadPort h n.toNat lt.toNat)
  | _ => .badFormat

/-- R26: LOAD-ROUTE. -/
def decodeRoute (h : ReqHdr) : List Byte → Decoded
  | [n, q] => .command (.loadRoute h n.toNat (optOf 1 q.toNat))
  | _ => .badFormat

/-- R30: LOAD-AUTH. -/
def decodeAuth (h : ReqHdr) : List Byte → Decoded
  | [n, m] => .command (.loadAuth h n.toNat m.toNat)
  | _ => .badFormat

/-- R34: SET-REPORT. -/
def decodeReport (h : ReqHdr) : List Byte → Decoded
  | [n] => .command (.setReport h (optOf 1 n.toNat))
  | _ => .badFormat

/-- R35: READ. -/
def decodeRead (h : ReqHdr) : List Byte → Decoded
  | [t, i, s] => .command (.read h t.toNat i.toNat s.toNat)
  | _ => .badFormat

/-- R42: LOAD-OUTPUT. -/
def decodeOutput (h : ReqHdr) : List Byte → Decoded
  | b :: r :: d1 :: d2 :: c :: rest =>
    .ofList (decodeLocs c.toNat rest) (fun l => .loadOutput h b.toNat r.toNat (num2 d1 d2) l)
  | _ => .badFormat

/-- R69: CABIN-LEVEL. -/
def decodeCabin (h : ReqHdr) : List Byte → Decoded
  | [z, l] => .command (.cabinLevel h z.toNat l.toNat)
  | _ => .badFormat

/-- R99: PAGE-CLOSE. -/
def decodeClose (h : ReqHdr) : List Byte → Decoded
  | [c] => .command (.pageClose h c.toNat)
  | _ => .badFormat

/-- R109: LOAD-CADENCE. -/
def decodeCadence (h : ReqHdr) : List Byte → Decoded
  | n :: f :: r :: c :: rest =>
    .ofList (decodeSteps c.toNat rest) (fun l => .loadCadence h n.toNat (flagOf f) r.toNat l)
  | _ => .badFormat

/-- R123: LOAD-SIGNAL. -/
def decodeSignal (h : ReqHdr) : List Byte → Decoded
  | [s, c, l1, l2, d1, d2, k] =>
    .command (.loadSignal h s.toNat c.toNat (num2 l1 l2) (num2 d1 d2) k.toNat)
  | _ => .badFormat

/-- R126: ALARM-SET. -/
def decodeAlarmSet (h : ReqHdr) : List Byte → Decoded
  | [a, b, k] => .command (.alarmSet h (BitVec.ofNat 16 (num2 a b)) k.toNat)
  | _ => .badFormat

/-- R141: LOAD-GROUP. -/
def decodeGroup (h : ReqHdr) : List Byte → Decoded
  | g :: f :: l :: c :: rest =>
    .ofList (decodeMembers c.toNat rest) (fun ms => .loadGroup h g.toNat (flagOf f) l.toNat ms)
  | _ => .badFormat

/-- R160: GO. -/
def decodeGo (h : ReqHdr) : List Byte → Decoded
  | [] => .command (.go h)
  | _ => .badFormat

/-- R160: GOTO. -/
def decodeGoto (h : ReqHdr) : List Byte → Decoded
  | [n] => .command (.goto h n.toNat)
  | _ => .badFormat

/-- R161: APPLY-SCENE. -/
def decodeApply (h : ReqHdr) : List Byte → Decoded
  | [n, t1, t2] => .command (.applyScene h n.toNat (num2 t1 t2))
  | _ => .badFormat

/-- R176: LOAD-CURVE. -/
def decodeCurve (h : ReqHdr) : List Byte → Decoded
  | n :: f :: c :: rest => .ofList (decodePoints c.toNat rest) (fun l => .loadCurve h n.toNat (flagOf f) l)
  | _ => .badFormat

/-- R190: LOAD-AMP. -/
def decodeAmp (h : ReqHdr) : List Byte → Decoded
  | [g, m, q1, q2, s1, s2, o1, o2, a1, a2, b1, b2, t, w1, w2] =>
    .command (.loadAmp h g.toNat m.toNat (num2 q1 q2) (num2 s1 s2) (num2 o1 o2) (num2 a1 a2) (num2 b1 b2) t.toNat (num2 w1 w2))
  | _ => .badFormat

/-- R191: AMP-POLICY. -/
def decodePolicy (h : ReqHdr) : List Byte → Decoded
  | [d] => .command (.ampPolicy h d.toNat)
  | _ => .badFormat

/-- R189: FAULT-CLEAR. -/
def decodeFault (h : ReqHdr) : List Byte → Decoded
  | [g] => .command (.faultClear h g.toNat)
  | _ => .badFormat

/-- R39: a request of a kind code with a payload. -/
def decodeRequest (h : ReqHdr) (kind : Nat) (p : List Byte) : Decoded :=
  match kind with
  | 1 => decodePort h p
  | 2 => decodeStream h p
  | 3 => decodeRoute h p
  | 4 => decodeAuth h p
  | 5 => decodeReport h p
  | 6 => decodeRead h p
  | 7 => decodeClear h p
  | 8 => decodeReset h p
  | 9 => decodeOutput h p
  | 10 => decodeZone h p
  | 11 => decodeCabin h p
  | 12 => decodePage h p
  | 13 => decodeClose h p
  | 14 => decodeCadence h p
  | 15 => decodeSignal h p
  | 16 => decodeAlarmSet h p
  | 17 => decodeAlarmClear h p
  | 18 => decodeGroup h p
  | 19 => decodeKey h p
  | 20 => decodeScene h p
  | 21 => decodeCue h p
  | 22 => decodeLine h p
  | 23 => decodeGo h p
  | 24 => decodeGoto h p
  | 25 => decodeApply h p
  | 26 => decodeShowClear h p
  | 27 => decodeSensor h p
  | 28 => decodeCurve h p
  | 29 => decodeScan h p
  | 30 => decodeAmp h p
  | 31 => decodePolicy h p
  | 32 => decodeFault h p
  | _ => .badFormat

/-- R39: whether a kind code is that of a request. -/
def isRequestKind (kind : Nat) : Bool := decide (1 ≤ kind) && decide (kind ≤ 32)

/-! The encoder -/

/-- R39: a location in three bytes. -/
def encodeLoc (l : RawLoc) : List Byte := [byteOf l.form, byteOf l.num, byteOf l.slot]

/-- R109: a cadence step in ten bytes. -/
def encodeStep (r : RawStep) : List Byte :=
  beBytes 2 r.freq ++ beBytes 1 r.duty ++ beBytes 2 r.level ++ beBytes 2 r.onMs ++ beBytes 2 r.offMs ++ beBytes 1 r.count

/-- R141: a member in nine bytes. -/
def encodeMember (r : RawMember) : List Byte :=
  beBytes 1 r.station ++ beBytes 1 r.stream ++ beBytes 1 r.bus ++ beBytes 2 r.gain ++ flagByte r.prio ++ flagByte r.latching ++
    beBytes 2 r.timeout

/-- R156: a scene entry in five bytes. -/
def encodeEntry (r : RawEntry) : List Byte := beBytes 1 r.bus ++ beBytes 1 r.stream ++ beBytes 2 r.coef ++ beBytes 1 r.mode

/-- R176: a breakpoint in five bytes. -/
def encodePoint (p : Nat × Nat) : List Byte := beBytes 3 p.1 ++ beBytes 2 p.2

/-- R84: a target form and its set. -/
def encodeTarget : PageTarget → List Byte
  | .zones set => byteOf 0 :: beBytes 12 set.toNat
  | .kinds mask => byteOf 1 :: beBytes 1 mask

/-- R39: the kind code and the payload of a request; none for a command that is an event. -/
def encodeRequest : Instr → Option (Nat × List Byte)
  | .loadPort _ n lt => some (1, beBytes 1 n ++ beBytes 1 lt)
  | .loadStreamMap _ n p b => some (2, beBytes 1 n ++ [byteOf 0] ++ encodeLoc p ++ encodeLoc b)
  | .loadStreamUnmap _ n => some (2, beBytes 1 n ++ [byteOf 1])
  | .loadRoute _ n q => some (3, beBytes 1 n ++ optBytes 1 q)
  | .loadAuth _ n m => some (4, beBytes 1 n ++ beBytes 1 m)
  | .setReport _ n => some (5, optBytes 1 n)
  | .read _ t i s => some (6, beBytes 1 t ++ beBytes 1 i ++ beBytes 1 s)
  | .clearCountsPort _ p => some (7, [byteOf 0] ++ beBytes 1 p)
  | .clearCountsBus _ b => some (7, [byteOf 1] ++ beBytes 1 b)
  | .clearCountsEvery _ => some (7, [byteOf 2])
  | .resetNodeJobs _ => some (8, [byteOf 0])
  | .resetNodeAll _ => some (8, [byteOf 1])
  | .loadOutput _ b r d ds =>
    some (9, beBytes 1 b ++ beBytes 1 r ++ beBytes 2 d ++ beBytes 1 ds.length ++ ds.flatMap encodeLoc)
  | .loadZoneLoad _ z k f bs d t o l se am =>
    some (10, beBytes 1 z ++ [byteOf 0] ++ beBytes 1 k ++ beBytes 1 f ++ beBytes 1 bs.length ++ bs.map byteOf ++ optBytes 2 d ++
      optBytes 1 t ++ optBytes 2 o ++ optBytes 2 l ++ optBytes 1 se ++ optBytes 1 am)
  | .loadZoneUnload _ z => some (10, beBytes 1 z ++ [byteOf 1])
  | .cabinLevel _ z l => some (11, beBytes 1 z ++ beBytes 1 l)
  | .pageOpen _ p src t g w o c l =>
    some (12, beBytes 1 p ++ beBytes 1 src ++ encodeTarget t ++ beBytes 1 g ++ flagByte w ++ beBytes 1 o ++ optBytes 1 c ++
      beBytes 2 l)
  | .pageClose _ c => some (13, beBytes 1 c)
  | .loadCadence _ n f r l =>
    some (14, beBytes 1 n ++ flagByte f ++ beBytes 1 r ++ beBytes 1 l.length ++ l.flatMap encodeStep)
  | .loadSignal _ s c l d k => some (15, beBytes 1 s ++ beBytes 1 c ++ beBytes 2 l ++ beBytes 2 d ++ beBytes 1 k)
  | .alarmSet _ z k => some (16, beBytes 2 z.toNat ++ beBytes 1 k)
  | .alarmClearCell _ z => some (17, [byteOf 0] ++ beBytes 2 z.toNat)
  | .alarmClearContact _ => some (17, [byteOf 1])
  | .loadGroup _ g f lim l =>
    some (18, beBytes 1 g ++ flagByte f ++ beBytes 1 lim ++ beBytes 1 l.length ++ l.flatMap encodeMember)
  | .talkKeyOn _ g => some (19, beBytes 1 g ++ [byteOf 0])
  | .talkKeyOff _ g => some (19, beBytes 1 g ++ [byteOf 1])
  | .loadSceneScope _ n m => some (20, beBytes 1 n ++ [byteOf 0] ++ beBytes 8 m.toNat)
  | .loadSceneEntries _ n f l =>
    some (20, beBytes 1 n ++ [byteOf 1] ++ flagByte f ++ beBytes 1 l.length ++ l.flatMap encodeEntry)
  | .loadCueLoad _ n sc x a nx =>
    some (21, [byteOf 0] ++ beBytes 1 n ++ beBytes 1 sc ++ beBytes 2 x ++ optBytes 2 a ++ optBytes 1 nx)
  | .loadCueUnload _ n => some (21, [byteOf 1] ++ beBytes 1 n)
  | .loadCueMark _ n => some (21, [byteOf 2] ++ optBytes 1 n)
  | .loadLineGate _ l d m => some (22, beBytes 1 l ++ beBytes 1 d ++ beBytes 1 m)
  | .loadLineStatus _ l s w t => some (22, beBytes 1 l ++ beBytes 1 s ++ beBytes 1 w ++ beBytes 1 t)
  | .go _ => some (23, [])
  | .goto _ n => some (24, beBytes 1 n)
  | .applyScene _ n t => some (25, beBytes 1 n ++ beBytes 2 t)
  | .showClearShowStop _ => some (26, [byteOf 0])
  | .showClearCueMark _ => some (26, [byteOf 1])
  | .showClearLines _ => some (26, [byteOf 2])
  | .loadSensorLoad _ n i o l u c s =>
    some (27, beBytes 1 n ++ [byteOf 0] ++ beBytes 1 i ++ beBytes 2 (BitVec.ofInt 16 o).toNat ++ beBytes 3 l ++ beBytes 3 u ++
      beBytes 1 c ++ optBytes 2 s)
  | .loadSensorUnload _ n => some (27, beBytes 1 n ++ [byteOf 1])
  | .loadCurve _ n f l => some (28, beBytes 1 n ++ flagByte f ++ beBytes 1 l.length ++ l.flatMap encodePoint)
  | .scanStart _ f l m => some (29, [byteOf 0] ++ beBytes 1 f ++ beBytes 1 l ++ beBytes 1 m)
  | .scanStop _ => some (29, [byteOf 1])
  | .loadAmp _ g m q s o a b t w =>
    some (30, beBytes 1 g ++ beBytes 1 m ++ beBytes 2 q ++ beBytes 2 s ++ beBytes 2 o ++ beBytes 2 a ++ beBytes 2 b ++
      beBytes 1 t ++ beBytes 2 w)
  | .ampPolicy _ d => some (31, beBytes 1 d)
  | .faultClear _ g => some (32, beBytes 1 g)
  | .hardwareReset _ => none
  | .frameArrival _ _ => none
  | .lossTimerExpiry _ => none
  | .portDeparture _ => none
  | .localExchange _ => none
  | .mixPeriod => none
  | .toneVoiceSample => none
  | .stepTimerExpiry _ => none
  | .contactDebounceComplete _ => none
  | .gateDebounceComplete _ _ => none
  | .ampReadyChange _ _ => none
  | .ampFaultInputChange _ _ => none
  | .timeLimitExpiry _ => none
  | .sourceWatchExpiry _ => none
  | .talkTimerExpiry _ _ => none
  | .autoFollowExpiry => none
  | .stretchTimerExpiry _ => none
  | .scanWindowComplete => none
  | .wakeTimerExpiry _ => none
  | .fullWindow _ => none
  | .idleResidencyThreshold _ => none
  | .resetInputLow => none

/-- The header of a request; none for a command that is an event. -/
def requestHeader : Instr → Option ReqHdr
  | .loadPort h _ _ => some h
  | .loadStreamMap h _ _ _ => some h
  | .loadStreamUnmap h _ => some h
  | .loadRoute h _ _ => some h
  | .loadAuth h _ _ => some h
  | .setReport h _ => some h
  | .read h _ _ _ => some h
  | .clearCountsPort h _ => some h
  | .clearCountsBus h _ => some h
  | .clearCountsEvery h => some h
  | .resetNodeJobs h => some h
  | .resetNodeAll h => some h
  | .loadOutput h _ _ _ _ => some h
  | .loadZoneLoad h _ _ _ _ _ _ _ _ _ _ => some h
  | .loadZoneUnload h _ => some h
  | .cabinLevel h _ _ => some h
  | .pageOpen h _ _ _ _ _ _ _ _ => some h
  | .pageClose h _ => some h
  | .loadCadence h _ _ _ _ => some h
  | .loadSignal h _ _ _ _ _ => some h
  | .alarmSet h _ _ => some h
  | .alarmClearCell h _ => some h
  | .alarmClearContact h => some h
  | .loadGroup h _ _ _ _ => some h
  | .talkKeyOn h _ => some h
  | .talkKeyOff h _ => some h
  | .loadSceneScope h _ _ => some h
  | .loadSceneEntries h _ _ _ => some h
  | .loadCueLoad h _ _ _ _ _ => some h
  | .loadCueUnload h _ => some h
  | .loadCueMark h _ => some h
  | .loadLineGate h _ _ _ => some h
  | .loadLineStatus h _ _ _ _ => some h
  | .go h => some h
  | .goto h _ => some h
  | .applyScene h _ _ => some h
  | .showClearShowStop h => some h
  | .showClearCueMark h => some h
  | .showClearLines h => some h
  | .loadSensorLoad h _ _ _ _ _ _ _ => some h
  | .loadSensorUnload h _ => some h
  | .loadCurve h _ _ _ => some h
  | .scanStart h _ _ _ => some h
  | .scanStop h => some h
  | .loadAmp h _ _ _ _ _ _ _ _ _ => some h
  | .ampPolicy h _ => some h
  | .faultClear h _ => some h
  | .hardwareReset _ => none
  | .frameArrival _ _ => none
  | .lossTimerExpiry _ => none
  | .portDeparture _ => none
  | .localExchange _ => none
  | .mixPeriod => none
  | .toneVoiceSample => none
  | .stepTimerExpiry _ => none
  | .contactDebounceComplete _ => none
  | .gateDebounceComplete _ _ => none
  | .ampReadyChange _ _ => none
  | .ampFaultInputChange _ _ => none
  | .timeLimitExpiry _ => none
  | .sourceWatchExpiry _ => none
  | .talkTimerExpiry _ _ => none
  | .autoFollowExpiry => none
  | .stretchTimerExpiry _ => none
  | .scanWindowComplete => none
  | .wakeTimerExpiry _ => none
  | .fullWindow _ => none
  | .idleResidencyThreshold _ => none
  | .resetInputLow => none

end Sys2Proof
end

