-- ==== Sys2Proof/Machine/Cells.lean ====
section
/-! DEFINITION. The cell handler's shared operations (chapter 2): the egress control queues, the active trunk, forwarding,
notices, authority, and the taking of a request with its checks and its REPLY. -/

namespace Sys2Proof.Machine

/-! Port states -/

/-- Whether port p is UP. -/
def State.portUp (s : State) (p : Nat) : Bool := (s.port p).state == .up

/-- Section 2.4: TRUNK0 while it is UP, otherwise TRUNK1 while it is UP, otherwise none. -/
def activeTrunk (s : State) : Option Nat :=
  if s.portUp 0 then some 0 else if s.portUp 1 then some 1 else none

/-- R8: what the frame clock follows: a trunk, or none for the part's own oscillator. The choice is revertive, so it is the
active trunk of section 2.4. -/
def frameReference (s : State) : Option Nat := activeTrunk s

/-- R8: island timing is in force exactly while both trunks are not UP. -/
def islandTiming (s : State) : Bool := !s.portUp 0 && !s.portUp 1

/-! The egress control queue (R27) -/

/-- R27: a cell joins the queue behind those in it, or is discarded and counted when the queue holds 8. -/
def Port.queue (c : Cell) (p : Port) : Port :=
  if p.egress.length < Config.egressDepth then { p with egress := p.egress ++ [c] } else { p with drops := bump16 p.drops }

/-- R27: queue a cell on port p. -/
def queueCell (p : Nat) (c : Cell) (s : State) : State := s.modPort p (Port.queue c)

/-! Forwarding -/

/-- Section 2.4: the port a cell for a node goes to: the route table's, or the active trunk where the entry is none. -/
def routePort (s : State) (node : Nat) : Option Nat :=
  match s.node.routes.getD node none with
  | some p => some p
  | none => activeTrunk s

/-- R24: a cell for another node, from its arrival port. -/
def forwardCell (arrival : Nat) (c : Cell) (s : State) : State :=
  match routePort s c.dst.toNat with
  | none => s
  | some p => if p = arrival then s else queueCell p c s

/-- R25: the ports a broadcast is forwarded to. -/
def broadcastPorts (s : State) (arrival : Nat) : List Nat :=
  if arrival < 2 then [2, 3, 4, 5]
  else (activeTrunk s).toList ++ [2, 3, 4, 5].filter (fun p => p != arrival)

/-- R25: queue a copy of a broadcast on each of some ports. -/
def queueCopies (ports : List Nat) (c : Cell) (s : State) : State := forEach ports (fun p s => queueCell p c s) s

/-! Notices (R32, R33) -/

/-- Table 2-3: a notice to be delivered by route. -/
def sendRouted (kind addressee : Nat) (payload : List Byte) (s : State) : State :=
  if addressee = s.node.id ∨ addressee = 255 then s
  else match routePort s addressee with
    | none => s
    | some p => queueCell p (composeCell addressee s.node.id kind 0 0 payload) s

/-- R33: an EVENT-NOTICE toward the report node; none is composed while no report node is set. -/
def eventNotice (payload : List Byte) (s : State) : State :=
  match s.node.report with
  | none => s
  | some n => sendRouted kindEventNotice n payload s

/-- R33: class PORT, with the port and UP or DOWN. -/
def portNotice (p : Nat) (up : Bool) (s : State) : State := eventNotice [byteOf 0, byteOf p, byteOf (!up).toNat] s

/-- R33: class ALARM, with the fire zone and its new resolved kind. -/
def alarmNotice (f : Nat) (k : Option AlarmKind) (s : State) : State :=
  eventNotice [byteOf 1, byteOf f, byteOf (kindNum k)] s

/-- R33: class AMP, with the group and FAULT and its reason, or RECOVERED. -/
def ampNotice (g : Nat) (r : Option FaultReason) (s : State) : State :=
  eventNotice ([byteOf 2, byteOf g] ++ match r with
    | some .ampFault => [byteOf 0, byteOf 0]
    | some .noReady => [byteOf 0, byteOf 1]
    | none => [byteOf 1]) s

/-- R33: class SENSOR, with the sensor and SUSPECT or GOOD. -/
def sensorNotice (n : Nat) (suspect : Bool) (s : State) : State :=
  eventNotice [byteOf 3, byteOf n, byteOf (!suspect).toNat] s

/-! Authority (R28, R29) -/

/-- Whether an entry's class set holds a class. -/
def AuthEntry.has (e : AuthEntry) : AuthClass → Bool
  | .config => e.config
  | .bridge => e.bridge
  | .operator => e.operator

/-- R29: whether a source identity holds a class. -/
def holdsClass (s : State) (src : Nat) (c : AuthClass) : Bool :=
  s.node.auth.isEmpty || (s.node.auth.find? (fun e => e.id == src)).any (fun e => e.has c)

/-! Taking a request (R22, R23) -/

/-- What the owning block makes of a request: the reply code, the reply data, and the state after its effects. -/
structure Answer where
  code : ReplyCode
  data : List Byte
  state : State

/-- The block executes the request and has no reply data. -/
def done (s : State) : Answer := { code := .done, data := [], state := s }

/-- The block refuses the request with a code and changes nothing. -/
def refuse (code : ReplyCode) (s : State) : Answer := { code := code, data := [], state := s }

/-- R23: queue the REPLY on the arrival port; none is composed for a broadcast. -/
def replyTo (h : ReqHdr) (code : ReplyCode) (data : List Byte) (s : State) : State :=
  if h.bcast then s else queueCell h.port.val (composeCell h.src s.node.id kindReply h.tag code.num data) s

/-- R22, R23: a request with its payload's length and its authority class is checked for format, for authority and by the owning
block, and answered. While hardware reset is in force no cell is taken (R20). -/
def takeRequest (h : ReqHdr) (len : Nat) (cls : AuthClass) (body : State → Answer) (s : State) : State :=
  if s.pins.resetLow then s
  else if 26 < len then replyTo h .refusedFormat [] s
  else if !holdsClass s h.src cls then replyTo h .refusedAuthority [] s
  else
    let a := body s
    replyTo h a.code a.data a.state

/-- R20: while hardware reset is in force an event has no effect. -/
def whileRunning (f : State → State) (s : State) : State := if s.pins.resetLow then s else f s

end Sys2Proof.Machine
end

