-- ==== Sys2Proof/Machine/Streams.lean ====
section
/-! DEFINITION. The stream table's shared operations (section 1.4): the source selection of Table 1-5, the re-selection of R10,
and the writing of arriving samples (R11, R12). -/

namespace Sys2Proof.Machine

/-- Whether a source can deliver samples: a local input always, a port while it is UP. -/
def sourceUp (s : State) : Source → Bool
  | .localIn _ => true
  | .slot p _ => s.portUp p

/-- R9: the state of an entry by Table 1-5; the first row that holds decides. -/
def selectState (s : State) (primary : Option Source) (backup : Option (Nat × Nat)) : StreamState :=
  match primary with
  | none => .unmapped
  | some src =>
    if sourceUp s src then .primary
    else match backup with
      | some (p, _) => if s.portUp p then .backup else .absent
      | none => .absent

/-- R10: an entry takes its state anew; its sample becomes 0 on the way into ABSENT and is kept otherwise. -/
def reselectEntry (s : State) (e : Stream) : Stream :=
  let st := selectState s e.primary e.backup
  { e with state := st, sample := if st = .absent then 0 else e.sample }

/-- Whether an entry names a port in either source (R10). -/
def namesPort (p : Nat) (e : Stream) : Bool :=
  (match e.primary with
    | some (.slot q _) => q == p
    | _ => false) || (match e.backup with
    | some (q, _) => q == p
    | none => false)

/-- R10: re-select every mapped entry that names port p. -/
def reselectStreams (p : Nat) (s : State) : State :=
  s.setStreams (s.streams.map (fun e => if namesPort p e then reselectEntry s e else e))

/-- R9: the source an entry takes its samples from, none while it is ABSENT or UNMAPPED. -/
def Stream.selected (e : Stream) : Option Source :=
  match e.state with
  | .primary => e.primary
  | .backup => e.backup.map (fun b => .slot b.1 b.2)
  | _ => none

/-- R11: the slots of a good frame handed on by port p are written to the entries that have selected them. -/
def writeSlots (p : Nat) (slot : Nat → Sample) (s : State) : State :=
  s.setStreams (s.streams.map (fun e =>
    match e.selected with
    | some (.slot q k) => if q = p ∧ k < 24 then { e with sample := slot k } else e
    | _ => e))

/-- R12: the local inputs are written to the PRIMARY entries whose primary source they are. -/
def writeLocalInputs (inputs : List Sample) (s : State) : State :=
  s.setStreams (s.streams.map (fun e =>
    match e.selected with
    | some (.localIn i) => { e with sample := inputs.getD i 0 }
    | _ => e))

/-- R14: whether a stream is available: neither UNMAPPED nor ABSENT. -/
def streamAvailable (s : State) (n : Nat) : Bool :=
  match (s.stream n).state with
  | .primary => true
  | .backup => true
  | _ => false

/-- R14: the sample a reader takes of a stream, 0 where it is UNMAPPED or ABSENT. -/
def streamSample (s : State) (n : Nat) : Sample := if streamAvailable s n then (s.stream n).sample else 0

end Sys2Proof.Machine
end

