-- ==== Sys2Proof/Machine/Arbiter.lean ====
section
/-! DEFINITION. What the claim arbiter reads and decides of a claim in its lists (sections 5.1 and 5.3): heads, grants, readiness,
heard claims, and the insertion and removal of claims. -/

namespace Sys2Proof.Machine

/-- Whether an alarm kind applies to zone z (R130). -/
def underAlarm (s : State) (z : Nat) : Bool := (s.zone z).any (fun zn => zn.applied.isSome)

/-- The priority of claim c, 0 where the record is FREE. -/
def claimPriority (s : State) (c : Nat) : Nat := ((s.claim c).map (·.priority)).getD 0

/-- R82: whether claim c is eligible in zone z. -/
def eligible (s : State) (z c : Nat) : Bool := !underAlarm s z || claimPriority s c == 7

/-- R82: the head of zone z: the first eligible claim of its list. -/
def headOf (s : State) (z : Nat) : Option Nat := (s.claimList z).find? (fun c => eligible s z c)

/-- The target zones of claim c, in rising order. -/
def targetZones (s : State) (c : Nat) : List Nat := ((s.claim c).map (fun cl => cl.targets.map Prod.fst)).getD []

/-- The zones claim c heads. -/
def headZones (s : State) (c : Nat) : List Nat := (targetZones s c).filter (fun z => headOf s z == some c)

/-- The zones in whose lists claim c stands. -/
def standingZones (s : State) (c : Nat) : List Nat := (targetZones s c).filter (fun z => (s.claimList z).contains c)

/-- R77: whether an amp group is ready: ON or FAULT. -/
def ampReady (a : Amp) : Bool := a.state == .on || a.state == .fault

/-- R77: whether a LOADED zone is ready; one whose amp group is none is ready at every moment. -/
def zoneReady (s : State) (z : Nat) : Bool :=
  (s.zone z).any (fun zn => match zn.amp with
    | none => true
    | some g => ampReady (s.amp g))

/-- R83: the grant of claim c in zone z. -/
def grantOf (s : State) (c z : Nat) : Grant :=
  if !(s.claimList z).contains c then .out
  else if headOf s z != some c then .waiting
  else if (s.claim c).any (fun cl => cl.state == .live) && zoneReady s z then .audible
  else .head

/-- R83: every claim's grants, written anew. -/
def refreshGrants (s : State) : State :=
  s.setClaims { s.claims with table := s.claims.table.mapIdx (fun c o => o.map (fun cl =>
    { cl with targets := cl.targets.map (fun t => (t.1, grantOf s c t.1)) })) }

/-- R83: how a zone hears its heard claim. -/
inductive Heard where
  | chiming (c : Nat) (voice : Option Nat)
  | audible (c : Nat) (source : Nat)
  deriving DecidableEq, Repr

/-- R83: the zone's heard claim: the claim chiming or AUDIBLE there, which is its head. -/
def heardOf (s : State) (z : Nat) : Option Heard :=
  match headOf s z with
  | none => none
  | some c =>
    match s.claim c with
    | none => none
    | some cl =>
      if !zoneReady s z then none
      else match cl.state with
        | .chiming => some (.chiming c cl.voice)
        | .live => some (.audible c cl.source)
        | _ => none

/-- The identifier of a heard claim. -/
def Heard.claim : Heard → Nat
  | .chiming c _ => c
  | .audible c _ => c

/-- R97: whether a zone has claim demand: its head is WAKING, CHIMING or LIVE. -/
def claimDemand (s : State) (z : Nat) : Bool :=
  match headOf s z with
  | none => false
  | some c => (s.claim c).any (fun cl => cl.state == .waking || cl.state == .chiming || cl.state == .live)

/-- R98, R147: whether a claim is in the pair of states CHIMING and LIVE. -/
def inPair (o : Option Claim) : Bool := o.any (fun cl => cl.state == .chiming || cl.state == .live)

/-- R103: the count of a claim's zones whose grant is AUDIBLE. -/
def audibleCount (cl : Claim) : Nat := cl.targets.countP (fun t => t.2 == .audible)

/-- R89: whether the grant rule of a claim is met. -/
def grantMet (s : State) (c : Nat) (cl : Claim) : Bool :=
  if cl.all then !(standingZones s c).isEmpty && (standingZones s c).all (fun z => headOf s z == some c)
  else !(headZones s c).isEmpty

/-- The number of claims in use. -/
def claimsInUse (s : State) : Nat := s.claims.table.countP (fun o => o.isSome)

/-- R81: the lowest-numbered FREE record. -/
def lowestFree (s : State) : Option Nat :=
  (List.range Config.claims).find? (fun c => (s.claim c).isNone)

/-- R82: a claim joins a list behind the claims of its own priority and above those of lower priority. -/
def insertClaim (s : State) (prio c : Nat) : List Nat → List Nat
  | [] => [c]
  | d :: rest => if claimPriority s d < prio then c :: d :: rest else d :: insertClaim s prio c rest

/-- Replace the claim list of zone z. -/
def setList (z : Nat) (l : List Nat) (s : State) : State :=
  s.setClaims { s.claims with lists := s.claims.lists.set z l }

/-! The ending of a claim (R102) -/

/-- A claim that ended in the event, with the record its notice reports and the reason. -/
structure Ended where
  id : Nat
  claim : Claim
  reason : EndReason

/-- An event under way: the state, and the claims that have ended in it. -/
structure Ev where
  st : State
  ended : List Ended

/-- Change the state of an event. -/
def Ev.on (f : State → State) (e : Ev) : Ev := { e with st := f e.st }

/-- R118: a tone voice becomes FREE. -/
def freeVoice (v : Nat) (s : State) : State := s.modVoice v (fun _ => voiceFree)

/-- R92, R102: the chime voice a claim holds is released. -/
def releaseChime (cl : Claim) (s : State) : State :=
  match cl.voice with
  | some v => freeVoice v s
  | none => s

/-- Table 5-1: a claim whose chime, still sounding, is cut short has its chime-skipped flag set. -/
def cutChime (cl : Claim) : Claim := { cl with chimeSkipped := cl.chimeSkipped || cl.state == .chiming }

/-- R102: a claim ends: it leaves its lists, its voice is released, its record becomes FREE, and the acceptance ranks above it
fall by 1. DEDUCED (log entry 38): an ending in mid-chime cuts the chime short, so the notice of the ending reports its flag set. -/
def endClaim (reason : EndReason) (c : Nat) (e : Ev) : Ev :=
  match e.st.claim c with
  | none => e
  | some cl =>
    let s := releaseChime cl e.st
    let table := (s.claims.table.set c none).map (Option.map (fun d =>
      { d with rank := if cl.rank < d.rank then d.rank - 1 else d.rank }))
    { st := s.setClaims { table := table, lists := s.claims.lists.map (fun l => l.filter (fun d => d != c)) },
      ended := e.ended ++ [{ id := c, claim := cutChime cl, reason := reason }] }

/-! LIVE -/

/-- R93, R100: a claim becomes LIVE; its time-limit timer starts at its first entry to LIVE. -/
def goLive (cl : Claim) : Claim :=
  { cl with state := .live, started := true, voice := none,
            timer := if cl.limit ≠ 0 ∧ cl.timer = none then some (cl.limit * Config.perSecond) else cl.timer }

/-! Displacement (R94) -/

/-- R90, R92, R94: what becomes of a claim that has lost its last head zone, to an alarm or to another claim; a chime cut short so sets
the chime-skipped flag (Table 5-1). DESIGN CHOICE (log entry 33): the heads are those the event leaves, so a claim that loses one zone
and gains another in one event keeps its state. -/
def loseHead (byAlarm : Bool) (c : Nat) (e : Ev) : Ev :=
  match e.st.claim c with
  | none => e
  | some cl =>
    if (headZones e.st c).isEmpty then
      match cl.state with
      | .queued => e
      | .suspended => e
      | .waking =>
        if cl.started then
          if !byAlarm && cl.drop then endClaim .preempted c e
          else e.on (fun s => s.modClaim c (fun cl => { cl with state := .suspended }))
        else e.on (fun s => s.modClaim c (fun cl => { cl with state := .queued }))
      | _ =>
        if !byAlarm && cl.drop then endClaim .preempted c e
        else e.on (fun s => (releaseChime cl s).modClaim c (fun cl => { cutChime cl with state := .suspended, voice := none }))
    else e

/-- R94: every claim in use, in rising order of identifier. -/
def loseHeads (byAlarm : Bool) (e : Ev) : Ev := forUpTo Config.claims (loseHead byAlarm) e

/-! Starting and resuming (R89, R95) -/

/-- R89, R95: a QUEUED claim whose grant rule is met, or a SUSPENDED claim that heads a zone, becomes WAKING. -/
def startClaim (c : Nat) (s : State) : State :=
  match s.claim c with
  | none => s
  | some cl =>
    match cl.state with
    | .queued => if grantMet s c cl then s.modClaim c (fun cl => { cl with state := .waking }) else s
    | .suspended =>
      if (headZones s c).isEmpty then s else s.modClaim c (fun cl => { cl with state := .waking })
    | _ => s

/-- R89, R95: every claim in use, in rising order of identifier. -/
def startClaims (s : State) : State := forUpTo Config.claims startClaim s

end Sys2Proof.Machine
end

