-- ==== Sys2Proof/Machine/ToneOps.lean ====
section
/-! DEFINITION. The tone unit's arbitration and stepping (sections 6.3 to 6.5), shared by the chimes and the alarm signals. -/

namespace Sys2Proof.Machine

/-- R117: the lowest-numbered FREE voice. -/
def lowestFreeVoice (s : State) : Option Nat :=
  (List.range Config.voices).find? (fun v => (s.voice v).holder == .free)

/-- The voice an alarm signal holds (R115). -/
def signalVoice (s : State) (k : AlarmKind) : Option Nat :=
  (List.range Config.voices).find? (fun v => (s.voice v).holder == .signal k)

/-- R114: a voice given to a holder starts the holder's cadence from step 0, or takes ENDED for an empty cadence. -/
def startVoice (v : Nat) (h : Holder) (cad : Nat) (s : State) : State :=
  let (ph, t) := match (s.cadence cad).steps with
    | [] => (StepPhase.ended, 0)
    | st :: _ => (StepPhase.on, st.onMs * Config.perMs)
  s.modVoice v (fun old =>
    { holder := h, cadence := some cad, step := 0, rep := 1, phase := ph, timer := t, passes := 0, osc := 0,
      sample := old.sample })

/-! Alarm signals (R115, R116, R118, R132) -/

/-- The severities in falling order (R115). -/
def kindsFalling : List AlarmKind := [.general, .fire, .crewAlert]

/-- R132: the LOADED zones to which the signal of a kind applies. -/
def signalZones (s : State) (k : AlarmKind) : List Nat :=
  (List.range Config.zones).filter (fun z => (s.zone z).any (fun zn => zn.applied == some k))

/-- R134: the highest resolved kind among all fire zones. -/
def highestKind (s : State) : Option AlarmKind := s.alarm.fire.foldl (fun k f => higher k f.resolved) none

/-- R135: the fallback signal, present while the fallback flag is set and a fire zone has a resolved kind. -/
def fallbackSignal (s : State) : Option AlarmKind := if s.alarm.fallback then highestKind s else none

/-- R122: a signal sounds while it applies to at least one LOADED zone or is the fallback signal. -/
def soundsNow (s : State) (k : AlarmKind) : Bool := !(signalZones s k).isEmpty || fallbackSignal s == some k

/-- R118, R132: a signal that no longer sounds frees its voice. -/
def stopSignal (k : AlarmKind) (s : State) : State :=
  match signalVoice s k with
  | some v => if soundsNow s k then s else freeVoice v s
  | none => s

/-- R132: every stopping of the event. -/
def stopSignals (s : State) : State := forEach kindsFalling stopSignal s

/-- R116: which of two chiming claims gives way first: the one of lower priority, and of equal ones the one of higher acceptance
rank. -/
def givesWay (a b : Claim) : Bool := a.priority < b.priority || (a.priority == b.priority && b.rank < a.rank)

/-- R116: the voice and claim of the chime that an alarm signal takes when no voice is FREE. -/
def chimeToTake (s : State) : Option (Nat × Nat) :=
  ((List.range Config.voices).foldl (fun (best : Option (Nat × Nat × Claim)) v =>
    match (s.voice v).holder with
    | .claim c =>
      match s.claim c with
      | some cl =>
        match best with
        | some (_, _, b) => if givesWay cl b then some (v, c, cl) else best
        | none => some (v, c, cl)
      | none => best
    | _ => best) none).map (fun b => (b.1, b.2.1))

/-- R115, R116: a signal that begins to sound is given the lowest FREE voice, or takes a chime's; the claim of that chime becomes
LIVE with its chime-skipped flag set. -/
def beginSignal (k : AlarmKind) (s : State) : State :=
  if (signalVoice s k).isNone && soundsNow s k then
    match lowestFreeVoice s with
    | some v => startVoice v (.signal k) (s.signal k).cadence s
    | none =>
      match chimeToTake s with
      | some (v, c) =>
        startVoice v (.signal k) (s.signal k).cadence (s.modClaim c (fun cl => goLive { cl with chimeSkipped := true }))
      | none => s
  else s

/-- R115: every beginning of the event, in falling order of severity. -/
def beginSignals (s : State) : State := forEach kindsFalling beginSignal s

/-! Chimes (R91, R117) -/

/-- R91, R117: a claim becomes CHIMING and asks for a voice; the chime is skipped when its cadence holds no steps or no voice is
FREE. -/
def beginChime (c cad : Nat) (s : State) : State :=
  if (s.cadence cad).steps.isEmpty then s.modClaim c (fun cl => goLive { cl with chimeSkipped := true })
  else match lowestFreeVoice s with
    | some v =>
      startVoice v (.claim c) cad (s.modClaim c (fun cl =>
        { cl with state := .chiming, started := true, voice := some v }))
    | none => s.modClaim c (fun cl => goLive { cl with chimeSkipped := true })

/-- R90: a WAKING claim whose head zones are all ready becomes CHIMING, or LIVE when it has no chime or has started before. -/
def endWake (c : Nat) (s : State) : State :=
  match s.claim c with
  | none => s
  | some cl =>
    if cl.state = .waking ∧ ¬ (headZones s c).isEmpty ∧ (headZones s c).all (zoneReady s) then
      match cl.chime with
      | some cad => if cl.started then s.modClaim c goLive else beginChime c cad s
      | none => s.modClaim c goLive
    else s

/-- R90, R117: every claim in use, in rising order of identifier. -/
def endWakes (s : State) : State := forUpTo Config.claims endWake s

/-! Stepping through a cadence (R112, R113) -/

/-- What the end of a phase leads to. -/
inductive PhaseEnd where
  | goes (v : Voice)
  | finished (v : Voice)

/-- R112: a new ON phase of a step. -/
def newOn (v : Voice) (steps : List CadStep) (step rep : Nat) : Voice :=
  { v with step := step, rep := rep, phase := .on, osc := 0,
           timer := ((steps[step]?).map (fun st => st.onMs * Config.perMs)).getD 0 }

/-- R112, R113: the phase of the step ends. A chime finishes at the end of its repeat count of passes, or of one pass when that is
0; an alarm signal at the end of a repeat count of 1 to 255. DESIGN CHOICE (log entry 40): the end of an ON phase leaves the oscillator
phase as it is; the sample of the next frame period sets it to 0 (R111). -/
def phaseEnd (cad : Cadence) (v : Voice) : PhaseEnd :=
  match cad.steps[v.step]? with
  | none => .goes { v with phase := .ended, timer := 0 }
  | some st =>
    if v.phase = .on ∧ 0 < st.offMs then .goes { v with phase := .off, timer := st.offMs * Config.perMs }
    else if v.rep < st.count then .goes (newOn v cad.steps v.step (v.rep + 1))
    else if v.step + 1 < cad.steps.length then .goes (newOn v cad.steps (v.step + 1) 1)
    else
      let passes := min 255 (v.passes + 1)
      let isChime := match v.holder with
        | .claim _ => true
        | _ => false
      if (cad.repeats ≠ 0 ∧ cad.repeats ≤ passes) ∨ (isChime = true ∧ cad.repeats = 0) then
        .finished { v with passes := passes, phase := .ended, timer := 0 }
      else .goes (newOn { v with passes := passes } cad.steps 0 1)

/-! Synthesis (R110, R111) -/

/-- R110: the phase increment of a frequency in hertz. -/
def phaseIncrement (f : Nat) : Nat := (f * 16777216 + 24000) / 48000

/-- R110: the duty threshold of a duty in per cent. -/
def dutyThreshold (d : Nat) : Nat := d * 16777216 / 100

/-- R110: the amplitude of a level. -/
def amplitude (l : Nat) : Nat := l * 8388607 / 16384

/-- R110, R111: a voice produces its sample of the frame period and advances its oscillator phase. -/
def voiceSample (cads : List Cadence) (v : Voice) : Voice :=
  if v.holder = .free then v
  else
    let step := v.cadence.bind (fun n => (cads.getD n cadenceEmpty).steps[v.step]?)
    match step with
    | none => { v with sample := 0, osc := 0 }
    | some st =>
      if v.phase = .on ∧ st.freq ≠ 0 ∧ st.duty ≠ 0 then
        let a : Int := amplitude st.level
        { v with sample := if v.osc < dutyThreshold st.duty then a else -a,
                 osc := (v.osc + phaseIncrement st.freq) % 16777216 }
      else { v with sample := 0, osc := 0 }

/-- R112: the step timer of a held voice whose phase is not ENDED falls by 1. -/
def Voice.count (v : Voice) : Voice := if v.holder = .free ∨ v.phase = .ended then v else { v with timer := v.timer - 1 }

end Sys2Proof.Machine
end

