-- ==== Sys2Proof/Machine/PowerOps.lean ====
section
/-! DEFINITION. The amplifier manager's shared operations (chapter 11): demand, idle targets and deepening, waking, and the
entering and leaving of FAULT. Each acts on one group record; the notices of R188 and R189 are composed beside it. -/

namespace Sys2Proof.Machine

/-- Table 11-1: mode lines 1 and 0 of a group. -/
def modeLines (a : Amp) : Bool × Bool :=
  match a.state with
  | .on => (true, true)
  | .waking => (true, true)
  | .quiet => (true, false)
  | .standby => (false, true)
  | .off => (false, false)
  | .fault => (false, false)

/-- R183: the idle depth of a state; WAKING and FAULT have none. -/
def idleDepth : AmpState → Option Nat
  | .on => some 0
  | .quiet => some 1
  | .standby => some 2
  | .off => some 3
  | .waking => none
  | .fault => none

/-- R183: the state of an idle depth. -/
def stateOfDepth : Nat → AmpState
  | 0 => .on
  | 1 => .quiet
  | 2 => .standby
  | _ => .off

/-- R183: a group is demoted while its threshold is not 0 and its early-wake count is at or above it. -/
def demoted (a : Amp) : Bool := a.threshold != 0 && decide (a.threshold ≤ a.early)

/-- R185: whether an idle threshold in seconds is reached by the residency. -/
def reached (seconds residency : Nat) : Bool := seconds != 0 && decide (seconds * Config.perSecond ≤ residency)

/-- R185: the depth of the idle target, limited by the policy and by demotion. -/
def idleTarget (policy : Nat) (a : Amp) : Nat :=
  let t := match a.residency with
    | none => 0
    | some r =>
      if reached a.offAfter r then 3 else if reached a.standbyAfter r then 2 else if reached a.quietAfter r then 1 else 0
  let t := min t policy
  if demoted a then min t 1 else t

/-- R185, R187: a group deepens to a depth; a deepening from ON or QUIET into STANDBY or OFF starts the window timer and sets the
early flag, an entry into QUIET while demoted starts the window timer. -/
def deepen (depth : Nat) (a : Amp) : Amp :=
  if depth = 1 then { a with state := .quiet, windowTimer := if demoted a then some 0 else none }
  else if a.state = .standby then { a with state := stateOfDepth depth }
  else { a with state := stateOfDepth depth, windowTimer := some 0, earlyFlag := true }

/-- R185: the idle target is judged; a target deeper than the state is taken at once. -/
def judgeIdle (policy : Nat) (a : Amp) : Amp :=
  match idleDepth a.state with
  | none => a
  | some d => if d < idleTarget policy a then deepen (idleTarget policy a) a else a

/-- R187, R190: the demoted condition is judged for a group standing in QUIET without demand: the window timer runs exactly
while it is demoted. -/
def judgeDemoted (a : Amp) : Amp :=
  if a.state = .quiet ∧ a.demand = false then
    if demoted a then { a with windowTimer := some (a.windowTimer.getD 0) } else { a with windowTimer := none }
  else a

/-- R186: a wake completes into ON; without demand the idle residency starts from 0. -/
def wakeDone (policy : Nat) (a : Amp) : Amp :=
  judgeIdle policy { a with state := .on, wakeTimer := none, residency := if a.demand then none else some 0 }

/-- R186: a group becomes WAKING with a wake limit in milliseconds; when READY is already high it becomes ON at the same event. -/
def startWake (policy limit : Nat) (a : Amp) : Amp :=
  let w := { a with state := .waking, reason := none, residency := none, windowTimer := none,
                    wakeTimer := some (limit * Config.perMs) }
  if w.readyIn then wakeDone policy w else w

/-- R186, R187: the appearance of demand. -/
def demandAppears (policy : Nat) (a : Amp) : Amp :=
  let a := { a with demand := true }
  let counted := { a with early := if a.earlyFlag then min 7 (a.early + 1) else a.early }
  match a.state with
  | .on => { a with residency := none }
  | .quiet => { a with state := .on, residency := none, windowTimer := none }
  | .standby => startWake policy a.wakeStandby counted
  | .off => startWake policy a.wakeOff counted
  | .waking => { a with residency := none }
  | .fault => { a with residency := none }

/-- R185: the loss of demand; the idle residency starts from 0 in ON or QUIET. -/
def demandLost (policy : Nat) (a : Amp) : Amp :=
  let a := { a with demand := false }
  match a.state with
  | .on => judgeIdle policy { a with residency := some 0 }
  | .quiet => judgeIdle policy { a with residency := some 0 }
  | _ => a

/-- R49: whether zone z has program activity. -/
def programActivity (s : State) (z : Nat) : Bool :=
  (s.zone z).any (fun zn => zn.buses.any (fun b => (s.bus b).live.any (fun x => x.cur != 0 || x.target != 0)))

/-- R184: whether a LOADED zone naming group g has alarm demand, claim demand or program activity. -/
def hasDemand (s : State) (g : Nat) : Bool :=
  (List.range Config.zones).any (fun z =>
    (s.zone z).any (fun zn => zn.amp == some g) && (underAlarm s z || claimDemand s z || programActivity s z))

/-- R184: the demand of group g is judged anew. -/
def updateDemand (g : Nat) (s : State) : State :=
  let now := hasDemand s g
  if now = (s.amp g).demand then s
  else s.modAmp g (if now then demandAppears s.power.policy else demandLost s.power.policy)

/-- R184: the demand of every group, in rising order. -/
def updateDemands (s : State) : State := forUpTo Config.ampGroups updateDemand s

/-- R188: group g enters FAULT, or takes the reason AMP_FAULT over NO_READY, with its notice. -/
def enterFault (g : Nat) (r : FaultReason) (s : State) : State :=
  let a := s.amp g
  if a.state = .fault then
    if r = .ampFault ∧ a.reason ≠ some .ampFault then
      ampNotice g (some .ampFault) (s.modAmp g (fun a => { a with reason := some .ampFault }))
    else s
  else
    ampNotice g (some r) (s.modAmp g (fun a =>
      { a with state := .fault, reason := some r, wakeTimer := none, residency := none, windowTimer := none }))

/-- R189: group g leaves FAULT into WAKING, with its notice. -/
def leaveFault (g : Nat) (s : State) : State :=
  ampNotice g none (s.modAmp g (fun a => startWake s.power.policy a.wakeOff a))

/-- R189: under AUTO a group in FAULT with reason AMP_FAULT and its FAULT input low leaves FAULT. -/
def autoLeave (g : Nat) (s : State) : State :=
  let a := s.amp g
  if a.state = .fault ∧ a.reason = some .ampFault ∧ a.auto = true ∧ a.faultIn = false then leaveFault g s else s

end Sys2Proof.Machine
end

