-- ==== Sys2Proof/Machine/ZoneOps.lean ====
section
/-! DEFINITION. The zone controller's decisions (chapter 4): applied kinds, cabin coefficients, layer modes, targets and layer
sources, and the contamination marks of the ambient meter that follow the modes. -/

namespace Sys2Proof.Machine

/-- R130: the applied kind of a LOADED zone: its fire zone's resolved kind, where its kind is in that signal's zone-kind set. -/
def appliedKind (s : State) (zn : Zone) : Option AlarmKind :=
  match (s.fireZone zn.fireZone).resolved with
  | none => none
  | some k => if (s.signal k).kinds.has zn.kind then some k else none

/-- Table 4-2: the coefficients of cabin levels 0 to 15. -/
def cabinTable : List Nat :=
  [0, 130, 184, 260, 367, 518, 732, 1034, 1460, 2062, 2913, 4115, 5813, 8211, 11599, 16384]

/-- R68: the cabin coefficient of a LOADED zone. -/
def cabinCoef (zn : Zone) : Nat := if zn.kind = .cabin then cabinTable.getD zn.cabinLevel 16384 else 16384

/-- R71: the layer mode, from the applied kind and the priority of the heard claim. -/
def layerMode (applied : Option AlarmKind) (heardPrio : Option Nat) : LayerMode :=
  match applied, heardPrio with
  | none, none => .normal
  | none, some _ => .voice
  | some _, none => .alarm
  | some _, some p => if p = 7 then .alarmVoice else .alarm

/-- R72: the term comp: the compensation current, or 16,384 where the sensor is none. -/
def compTerm (zn : Zone) : Nat := if zn.sensor.isSome then zn.compCur else 16384

/-- R72: the targets of k_p, k_v and k_a by Table 4-4; a set program-held flag makes the k_p target 0. -/
def layerTargets (s : State) (zn : Zone) (mode : LayerMode) (heardPrio : Option Nat) : Nat × Nat × Nat :=
  let comp := compTerm zn
  let voiceLevel := if zn.threshold ≤ heardPrio.getD 0 then zn.override else cabinCoef zn
  let sig := (zn.applied.map s.signal).getD
    { cadence := 0, level := 0, duck := 0, kinds := kindSetOf 0 }
  let (kp, kv, ka) := match mode with
    | .normal => (cabinCoef zn, 0, 0)
    | .voice => (product zn.duck (cabinCoef zn), product comp voiceLevel, 0)
    | .alarm => (0, 0, product comp sig.level)
    | .alarmVoice => (0, product comp zn.override, product (product comp sig.level) sig.duck)
  (if zn.held then 0 else kp, kv, ka)

/-- The priority of a zone's heard claim. -/
def heardPriority (s : State) (z : Nat) : Option Nat := (heardOf s z).map (fun h => claimPriority s h.claim)

/-- R71, R74: a zone's layer mode is determined and its targets are formed anew. -/
def refreshZone (s : State) (z : Nat) (zn : Zone) : Zone :=
  let m := layerMode zn.applied (heardPriority s z)
  let t := layerTargets s zn m (heardPriority s z)
  { zn with mode := m, kpTarget := t.1, kvTarget := t.2.1, kaTarget := t.2.2 }

/-- R71, R74: every LOADED zone. -/
def refreshZones (s : State) : State := s.setZones (s.zones.mapIdx (fun z o => o.map (refreshZone s z)))

/-- Whether a zone stands in a mode that contaminates a window (R179). -/
def contaminating (s : State) (z : Nat) : Bool := (s.zone z).any (fun zn => zn.mode != .normal)

/-- Change the window in progress. -/
def modWindow (f : Window → Window) (s : State) : State :=
  s.setAmbient { s.ambient with scan := { s.ambient.scan with window := s.ambient.scan.window.map f } }

/-- R179: a zone of the window's set whose mode has left NORMAL is marked contaminated; a mark stays. -/
def markContaminated (s : State) : State :=
  modWindow (fun w => { w with zones := w.zones.map (fun t => (t.1, t.2 || contaminating s t.1)) }) s

/-- R66, R179: a zone that leaves the window's sensor is removed from its set. -/
def dropFromWindow (z : Nat) (s : State) : State :=
  modWindow (fun w => { w with zones := w.zones.filter (fun t => t.1 != z) }) s

/-- Where a layer of a zone takes its samples (R75, R76). -/
inductive LayerSource where
  | silent
  | tone (v : Nat)
  | stream (n : Nat)
  deriving DecidableEq, Repr

/-- R75: the voice source of a zone. -/
def voiceSource (s : State) (z : Nat) (zn : Zone) : LayerSource :=
  match zn.mode with
  | .normal => .silent
  | .alarm => .silent
  | _ =>
    match heardOf s z with
    | none => .silent
    | some (.chiming _ v) => (v.map LayerSource.tone).getD .silent
    | some (.audible _ n) => .stream n

/-- R76: the alarm source of a zone. -/
def alarmSource (s : State) (zn : Zone) : LayerSource :=
  match zn.mode with
  | .normal => .silent
  | .voice => .silent
  | _ =>
    match zn.applied with
    | none => .silent
    | some k => ((signalVoice s k).map LayerSource.tone).getD .silent

/-- The sample of a layer source as it stands. -/
def sourceSample (s : State) : LayerSource → Sample
  | .silent => 0
  | .tone v => (s.voice v).sample
  | .stream n => streamSample s n

end Sys2Proof.Machine
end

