-- ==== Sys2Proof/Machine/TalkOps.lean ====
section
/-! DEFINITION. The intercom unit's shared operations (chapter 8): members, talker sets, calling counts, and TALK-NOTICEs. -/

namespace Sys2Proof.Machine

/-- Table 8-2: the states a TALK-NOTICE reports. -/
inductive TalkNote where
  | admitted
  | released
  | dropped
  | denied
  | suspended
  | resumed
  deriving DecidableEq, Repr

/-- R39: the number of a notice state, in the order R150 lists them. -/
def TalkNote.num : TalkNote → Nat
  | .admitted => 0
  | .released => 1
  | .dropped => 2
  | .denied => 3
  | .suspended => 4
  | .resumed => 5

/-- R39: the number of a talk state, in the order R139 lists them. -/
def TalkState.num : TalkState → Nat
  | .idle => 0
  | .talking => 1
  | .suspended => 2

/-- Table 8-2: the talk state after the event that a notice state reports. DESIGN CHOICE (log entry 9): a member that one event resumes and
then suspends again is reported RESUMED with TALKING, as the table has it, and then SUSPENDED with SUSPENDED. -/
def TalkNote.after : TalkNote → TalkState
  | .admitted => .talking
  | .resumed => .talking
  | .suspended => .suspended
  | _ => .idle

/-- A TALK-NOTICE to be composed: the group, the member index, the station and the notice state. -/
structure Note where
  group : Nat
  index : Nat
  station : Nat
  what : TalkNote

/-- R150: a TALK-NOTICE is delivered by route to the member's station; it carries the number of talkers after the event. DESIGN CHOICE (log
entry 9): of a member that one event both resumes and suspends, the RESUMED notice carries the talk state of Table 8-2, TALKING, which is
not the state after the whole event, beside the number of talkers after the whole event. -/
def sendNote (n : Note) (s : State) : State :=
  sendRouted kindTalkNotice n.station
    [byteOf n.group, byteOf n.index, byteOf n.what.num, byteOf n.what.after.num,
     byteOf (s.group n.group).talkers.length] s

/-- R150: the notices of one event, in order. -/
def sendNotes (l : List Note) (s : State) : State := forEach l sendNote s

/-- The member of a station in a group, with its index. -/
def findMember (g : Group) (station : Nat) : Option (Nat × Member) :=
  (g.members.zipIdx.find? (fun m => m.1.station == station)).map (fun m => (m.2, m.1))

/-- Change member i of a group. -/
def Group.modMember (i : Nat) (f : Member → Member) (g : Group) : Group := { g with members := g.members.modify i f }

/-- R146: the talk timer a latching member is preset to; none for a member that has no talk timer. -/
def talkPreset (m : Member) : Option Nat :=
  if m.latching = true ∧ m.timeout ≠ 0 then some (m.timeout * Config.perSecond) else none

/-- R143: a member is admitted and joins the end of the talker set. -/
def Group.letTalk (i : Nat) (g : Group) : Group :=
  { g.modMember i (fun m => { m with state := .talking, timer := talkPreset m }) with talkers := g.talkers ++ [i] }

/-- R145, R146: a member becomes IDLE, leaves the talker set, and its timer stops. -/
def Group.release (i : Nat) (g : Group) : Group :=
  { g.modMember i (fun m => { m with state := .idle, timer := none }) with talkers := g.talkers.filter (fun j => j != i) }

/-- R148: a talker is suspended; its timer runs on. -/
def Group.suspend (i : Nat) (g : Group) : Group :=
  { g.modMember i (fun m => { m with state := .suspended }) with talkers := g.talkers.filter (fun j => j != i) }

/-- R149: a suspended member is resumed at the end of the talker set; its timer is not preset. -/
def Group.resume (i : Nat) (g : Group) : Group :=
  { g.modMember i (fun m => { m with state := .talking }) with talkers := g.talkers ++ [i] }

/-- Every (group, member index, member) of the part, in rising order of group number and then of member index. -/
def allMembers (s : State) : List (Nat × Nat × Member) :=
  (List.range Config.groups).flatMap (fun g => (s.group g).members.zipIdx.map (fun m => (g, m.2, m.1)))

/-- R149: the suspended members of the streams whose calling counts fell to 0 are resumed where their groups have room, and
dropped otherwise. -/
def resumeMembers (fell : Nat → Bool) (s : State) : State × List Note :=
  (allMembers s).foldl (fun (acc : State × List Note) t =>
    if t.2.2.state = .suspended ∧ fell t.2.2.stream then
      let room := decide ((acc.1.group t.1).talkers.length < (acc.1.group t.1).limit)
      (acc.1.modGroup t.1 (if room then Group.resume t.2.1 else Group.release t.2.1),
       acc.2 ++ [{ group := t.1, index := t.2.1, station := t.2.2.station,
                   what := if room then .resumed else .dropped }])
    else acc) (s, [])

/-- R148: the talkers of the streams whose calling counts rose from 0 are suspended. -/
def suspendMembers (rose : Nat → Bool) (s : State) : State × List Note :=
  (allMembers s).foldl (fun (acc : State × List Note) t =>
    if t.2.2.state = .talking ∧ rose t.2.2.stream then
      (acc.1.modGroup t.1 (Group.suspend t.2.1),
       acc.2 ++ [{ group := t.1, index := t.2.1, station := t.2.2.station, what := .suspended }])
    else acc) (s, [])

/-- The calling count of a stream (R147). -/
def State.calling (s : State) (n : Nat) : Nat := s.talk.calling.getD n 0

/-- R147: the count of claims with a source that are in a table's pair CHIMING and LIVE but not in another's. -/
def pairMoves (from' to' : List (Option Claim)) (n : Nat) : Nat :=
  (from'.zip to').countP (fun p => inPair p.1 && !inPair p.2 && p.1.any (fun cl => cl.source == n))

/-- R150: notices in rising order of group number, then of member index; those for one member stay in their order. -/
def inMemberOrder (s : State) (l : List Note) : List Note :=
  (allMembers s).flatMap (fun t => l.filter (fun n => n.group == t.1 && n.index == t.2.1))

/-- R98, R147 to R149: the departures and then the entries of an event are taken, comparing the claim table before and after
it. DESIGN CHOICE (log entry 9): departures first. -/
def updateCalling (before : State) (s : State) : State :=
  let b := before.claims.table
  let a := s.claims.table
  let mid := fun n => s.calling n - pairMoves b a n
  let r := resumeMembers (fun n => s.calling n != 0 && mid n == 0) s
  let s2 := r.1
  let u := suspendMembers (fun n => mid n == 0 && pairMoves a b n != 0) s2
  let s3 := u.1.setTalk { u.1.talk with calling := u.1.talk.calling.mapIdx (fun n c => (c - pairMoves b a n) + pairMoves a b n) }
  sendNotes (inMemberOrder s (r.2 ++ u.2)) s3

end Sys2Proof.Machine
end

