-- ==== Sys2Proof/Machine/LineOps.lean ====
section
/-! DEFINITION. Status lines and their sources (R169, R170), the show-stop latch (R167), HOLD (R166), and the alarm
indications of R133 and the emitted word of R134. -/

namespace Sys2Proof.Machine

/-- R134: the part's resolved alarm word. -/
def resolvedWord (s : State) : AlarmWord :=
  { mask := BitVec.ofNat 16 ((s.alarm.fire.mapIdx (fun i f => if f.resolved.isSome then 2 ^ i else 0)).sum),
    kind := highestKind s }

/-- R133: the theatre alarm: a LOADED THEATRE zone has applied kind FIRE or GENERAL. -/
def theatreAlarm (s : State) : Bool :=
  s.zones.any (fun o => o.any (fun zn =>
    zn.kind == .theatre && (zn.applied == some .fire || zn.applied == some .general)))

/-- R71: a THEATRE zone hears an audible claim. -/
def theatreVoice (s : State) : Bool :=
  (List.range Config.zones).any (fun z => (s.zone z).any (fun zn => zn.kind == .theatre) &&
    match heardOf s z with
    | some (.audible _ _) => true
    | _ => false)

/-- R169: whether a status line source is true, by Table 9-1. -/
def sourceTrue (s : State) : LineSource → Bool
  | .off => false
  | .on => true
  | .alarmAny => s.alarm.fire.any (fun f => f.resolved.isSome)
  | .alarmGeneral => s.alarm.fire.any (fun f => f.resolved == some .general)
  | .showStop => s.showCtl.showStop
  | .cueMark => s.showCtl.cueLatch
  | .theatreVoice => theatreVoice s
  | .ampFaultAny => s.power.groups.any (fun a => a.state == .fault)
  | .trunkLoss => !s.portUp 0 || !s.portUp 1
  | .island => islandTiming s

/-- R170: a rise of a line's source. -/
def lineRise (l : Line) : Line :=
  match l.width with
  | .direct => { l with level := true }
  | .stretch => { l with level := true, timer := l.stretch * Config.perMs }
  | .latch => { l with level := true, latched := true, rose := true }

/-- R170: a fall of a line's source. -/
def lineFall (l : Line) : Line :=
  match l.width with
  | .direct => { l with level := false }
  | .stretch => if l.timer = 0 then { l with level := false } else l
  | .latch => l

/-- R170: a line follows its source from its value before an event to its value after it. -/
def followSource (was now : Bool) (l : Line) : Line :=
  if now && !was then lineRise l else if was && !now then lineFall l else l

/-- R169, R170: every status line follows its source across an event. -/
def updateLines (before : State) (s : State) : State :=
  s.setShow { s.showCtl with
    lines := s.showCtl.lines.map (fun l => followSource (sourceTrue before l.source) (sourceTrue s l.source) l) }

/-- R167: the show-stop latch is set; when it was clear, every LOADED THEATRE zone is held and the auto-follow timer stops. -/
def setShowStop (s : State) : State :=
  if s.showCtl.showStop then s
  else (s.setShow { s.showCtl with showStop := true, autoFollow := none }).setZones
    (s.zones.map (Option.map (fun zn => if zn.kind = .theatre then { zn with held := true } else zn)))

/-- R168: the show-stop latch is cleared, and with it the program-held flag of every LOADED THEATRE zone. -/
def clearShowStop (s : State) : State :=
  if s.showCtl.showStop then
    (s.setShow { s.showCtl with showStop := false }).setZones
      (s.zones.map (Option.map (fun zn => if zn.kind = .theatre then { zn with held := false } else zn)))
  else s

/-- R166: HOLD is in force while a gate line of mode HOLD has debounced level HIGH. -/
def judgeHold (s : State) : State :=
  s.setShow { s.showCtl with hold := s.showCtl.gates.any (fun g => g.mode == .hold && g.level) }

end Sys2Proof.Machine
end

