-- ==== Sys2Proof/Machine/Settle.lean ====
section
/-! DEFINITION. How one event runs through the blocks: alarm resolution and application (sections 7.3 and 7.4), the settling of
claims, demand and voices (chapters 5, 6, 11), and the hand-offs and notices that close the event.

DESIGN CHOICE (log entries 8 to 11, safe where the spec allows either order): resolution, application, stoppings of signals,
displacements, beginnings of signals, starts of claims, demand, ends of wakes, then layer modes and targets, CLAIM-NOTICEs,
calling counts with their TALK-NOTICEs, status lines. -/

namespace Sys2Proof.Machine

/-! Resolution and application (R129 to R131) -/

/-- R127: the contact kind of every fire zone. -/
def contactKind (s : State) : Option AlarmKind := if s.alarm.contactLatch then some .general else none

/-- R129: the highest of a fire zone's beacon, cell and contact kinds. -/
def resolveKind (s : State) (f : FireZone) : Option AlarmKind := higher (higher f.beacon f.cell) (contactKind s)

/-- R129: fire zone i + 1 is resolved; a change composes an EVENT-NOTICE. -/
def resolveZone (i : Nat) (s : State) : State :=
  let f := s.fireZone (i + 1)
  let k := resolveKind s f
  if k = f.resolved then s else alarmNotice (i + 1) k (s.modFire i (fun f => { f with resolved := k }))

/-- R129: all sixteen fire zones, in rising order. -/
def resolveAll (s : State) : State := forUpTo Config.fireZones resolveZone s

/-- R133: whether a change of applied kind is a show-stop trigger. -/
def isTrigger (zn : Zone) (old new : Option AlarmKind) : Bool :=
  zn.kind == .theatre && old != new && (new == some .fire || new == some .general)

/-- R130, R131: the applied kind of every LOADED zone is determined again; a trigger sets the show-stop latch. -/
def applyAll (s : State) : State :=
  let triggered := s.zones.any (fun o => o.any (fun zn => isTrigger zn zn.applied (appliedKind s zn)))
  let s := s.setZones (s.zones.map (Option.map (fun zn => { zn with applied := appliedKind s zn })))
  if triggered then setShowStop s else s

/-- R124: the kind a trunk's word gives fire zone f. -/
def wordKind (w : Option AlarmWord) (f : Nat) : Option AlarmKind :=
  match w with
  | none => none
  | some w => if w.mask.getLsbD (f - 1) then w.kind else none

/-- R124: the beacon kinds are computed from the words of the UP trunks. -/
def computeBeacon (s : State) : State :=
  let word := fun p => if s.portUp p then (s.port p).rxAlarm else none
  s.setAlarm { s.alarm with fire := s.alarm.fire.mapIdx (fun i f =>
    { f with beacon := higher (wordKind (word 0) (i + 1)) (wordKind (word 1) (i + 1)) }) }

/-! Settling -/

/-- The claims, signals and demands of an event are settled: voices of signals that stopped are freed, claims without a head zone
are dealt with, signals that begin take their voices, claims start or resume, demand is judged, and wakes end. -/
def settle (byAlarm : Bool) (e : Ev) : Ev :=
  let e := loseHeads byAlarm (e.on stopSignals)
  e.on (fun s => endWakes (updateDemands (startClaims (beginSignals s))))

/-! Closing (R103) -/

/-- R39, R103: the number of a claim state. -/
def ClaimState.num : ClaimState → Nat
  | .queued => 0
  | .waking => 1
  | .chiming => 2
  | .live => 3
  | .suspended => 4

/-- R39, R103: the number of an end reason; the field may also be none (log entry 15). -/
def EndReason.num : EndReason → Nat
  | .closed => 0
  | .timeLimit => 1
  | .sourceLost => 2
  | .bumped => 3
  | .preempted => 4
  | .reset => 5

/-- R103, Table 2-3: a CLAIM-NOTICE to the claim's origin node, queued on its origin port. -/
def claimNotice (c : Nat) (cl : Claim) (state : Nat) (reason : Option EndReason) (audible : Nat) (s : State) : State :=
  queueCell cl.originPort (composeCell cl.origin s.node.id kindClaimNotice 0 0
    ([byteOf c, byteOf state] ++ optBytes 1 (reason.map EndReason.num) ++ [byteOf audible] ++ flagByte cl.chimeSkipped)) s

/-- R103: the notice of claim c for an event: its ending, or the state the event leaves it in when that is not the state
reported before. -/
def noticeFor (before : State) (ended : List Ended) (c : Nat) (s : State) : State :=
  match ended.find? (fun e => e.id == c) with
  | some e => claimNotice c e.claim 5 (some e.reason) 0 s
  | none =>
    match s.claim c with
    | none => s
    | some cl =>
      if (before.claim c).map (·.state) = some cl.state then s
      else claimNotice c cl cl.state.num none (audibleCount cl) s

/-- R103: the CLAIM-NOTICEs of an event, in rising order of claim identifier. -/
def claimNotices (before : State) (ended : List Ended) (s : State) : State :=
  forUpTo Config.claims (noticeFor before ended) s

/-- The hand-offs and notices that close an event that began in a state. -/
def close (before : State) (e : Ev) : State :=
  let s := markContaminated (refreshZones (refreshGrants e.st))
  updateLines before (updateCalling before (claimNotices before e.ended s))

/-- An event that changes claims, readiness, demand or sources: settle and close. -/
def conclude (before s : State) : State := close before (settle false { st := s, ended := [] })

/-- An event that changes what the resolved kinds apply to: apply, settle and close. -/
def concludeApplied (before s : State) : State := close before (settle true { st := applyAll s, ended := [] })

/-- An event that changes an alarm source: resolve, then apply, settle and close. -/
def concludeAlarm (before s : State) : State := concludeApplied before (resolveAll s)

end Sys2Proof.Machine
end

