-- ==== Sys2Proof/Machine/Alarms.lean ====
section
/-! DEFINITION. The commands of chapter 7: LOAD_SIGNAL, ALARM_SET, ALARM_CLEAR_CELL, ALARM_CLEAR_CONTACT,
CONTACT_DEBOUNCE_COMPLETE. The beacon is taken in Machine/Ports.lean and Machine/Links.lean. -/

namespace Sys2Proof.Machine

/-- Table 2-5: the signal that an index names. -/
def signalOf : Nat → Option AlarmKind
  | 0 => some .crewAlert
  | 1 => some .fire
  | 2 => some .general
  | _ => none

/-- R123, R114: a signal that holds a voice starts a changed cadence from its beginning on the same voice. -/
def restartSignal (k : AlarmKind) (oldCad newCad : Nat) (s : State) : State :=
  match signalVoice s k with
  | some v => if oldCad = newCad then s else startVoice v (.signal k) newCad s
  | none => s

/-- R123, R130: a signal record is written and its changes take effect; every resolved kind stands. -/
def writeSignal (k : AlarmKind) (r : Signal) (s : State) : State :=
  let s1 := s.setAlarm { s.alarm with signals := s.alarm.signals.set (signalIndex k) r }
  concludeApplied s (restartSignal k (s.signal k).cadence r.cadence s1)

/-- R123: what the alarm controller makes of a LOAD-SIGNAL. -/
def loadSignal (signal cadence level duck kinds : Nat) (s : State) : Answer :=
  match signalOf signal with
  | none => refuse .refusedRange s
  | some k =>
    if 31 < cadence ∨ 15 < kinds then refuse .refusedRange s
    else done (writeSignal k { cadence := cadence, level := min 32767 level, duck := min 16384 duck, kinds := kindSetOf kinds } s)

/-- LOAD_SIGNAL (R123). -/
def runLoadSignal (h : ReqHdr) (signal cadence level duck kinds : Nat) (s : State) : State :=
  takeRequest h 7 .bridge (loadSignal signal cadence level duck kinds) s

/-- LOAD_SIGNAL. -/
def execLoadSignal (h : ReqHdr) (signal cadence level duck kinds : Nat) (s : State) : Host.Outcome State Fault Refusal :=
  .next (runLoadSignal h signal cadence level duck kinds s)

/-- R126, R128: a cell kind is written into every fire zone of a set. -/
def writeCellKinds (zones : BitVec 16) (k : Option AlarmKind) (s : State) : State :=
  s.setAlarm { s.alarm with fire := s.alarm.fire.mapIdx (fun i f => if zones.getLsbD i then { f with cell := k } else f) }

/-- R126: the kind that an ALARM-SET may name. -/
def cellKindOf : Nat → Option AlarmKind
  | 1 => some .crewAlert
  | 2 => some .fire
  | 3 => some .general
  | _ => none

/-- ALARM_SET (R126). -/
def runAlarmSet (h : ReqHdr) (zones : BitVec 16) (kind : Nat) (s : State) : State :=
  takeRequest h 3 .bridge (fun s =>
    match cellKindOf kind with
    | none => refuse .refusedRange s
    | some k => if zones = 0 then refuse .refusedRange s else done (concludeAlarm s (writeCellKinds zones (some k) s))) s

/-- ALARM_SET. -/
def execAlarmSet (h : ReqHdr) (zones : BitVec 16) (kind : Nat) (s : State) : Host.Outcome State Fault Refusal :=
  .next (runAlarmSet h zones kind s)

/-- ALARM_CLEAR_CELL (R128). -/
def runAlarmClearCell (h : ReqHdr) (zones : BitVec 16) (s : State) : State :=
  takeRequest h 3 .bridge (fun s =>
    if zones = 0 then refuse .refusedRange s else done (concludeAlarm s (writeCellKinds zones none s))) s

/-- ALARM_CLEAR_CELL. -/
def execAlarmClearCell (h : ReqHdr) (zones : BitVec 16) (s : State) : Host.Outcome State Fault Refusal :=
  .next (runAlarmClearCell h zones s)

/-- R127, R128: set or clear the contact latch. -/
def setContactLatch (b : Bool) (s : State) : State := s.setAlarm { s.alarm with contactLatch := b }

/-- ALARM_CLEAR_CONTACT (R128). -/
def runAlarmClearContact (h : ReqHdr) (s : State) : State :=
  takeRequest h 1 .bridge (fun s =>
    if s.alarm.contactClosed then refuse .refusedState s else done (concludeAlarm s (setContactLatch false s))) s

/-- ALARM_CLEAR_CONTACT. -/
def execAlarmClearContact (h : ReqHdr) (s : State) : Host.Outcome State Fault Refusal := .next (runAlarmClearContact h s)

/-- R127: the debounced level takes the contact's level; a level that becomes CLOSED sets the contact latch. -/
def takeContact (closed : Bool) (s : State) : State :=
  let s1 := s.setPins { s.pins with contactIn := closed }
  let s2 := s1.setAlarm { s1.alarm with contactClosed := closed, contactCount := 0 }
  if closed then concludeAlarm s (setContactLatch true s2) else s2

/-- CONTACT_DEBOUNCE_COMPLETE (R127): the contact input stands at a level. One that differs from the debounced level in the frame
period that brings the debounce count to 960 is taken; any other is the input that the tick samples and counts (log entry 1). -/
def runContactDebounceComplete (closed : Bool) (s : State) : State :=
  whileRunning (fun s =>
    if closed ≠ s.alarm.contactClosed ∧ debounced Config.contactDebounce s.alarm.contactCount then takeContact closed s
    else s.setPins { s.pins with contactIn := closed }) s

/-- CONTACT_DEBOUNCE_COMPLETE. -/
def execContactDebounceComplete (closed : Bool) (s : State) : Host.Outcome State Fault Refusal :=
  .next (runContactDebounceComplete closed s)

end Sys2Proof.Machine
end

