-- ==== Sys2Proof/Machine/Amps.lean ====
section
/-! DEFINITION. The commands of chapter 11: changes of the READY and FAULT inputs, the expiries of an amp group, LOAD_AMP,
AMP_POLICY, FAULT_CLEAR. -/

namespace Sys2Proof.Machine

/-- R186: the sampled READY level of group g changes; a rise completes the wake of a WAKING group. -/
def takeReady (g : Nat) (high : Bool) (s : State) : State :=
  conclude s (s.modAmp g (fun a =>
    if high = true ∧ a.state = .waking then wakeDone s.power.policy { a with readyIn := high } else { a with readyIn := high }))

/-- AMP_READY_CHANGE (R186); while hardware reset is in force only the input's level is taken. -/
def runAmpReadyChange (g : Nat) (high : Bool) (s : State) : State :=
  if high = (s.amp g).readyIn then s
  else if s.pins.resetLow then s.modAmp g (fun a => { a with readyIn := high })
  else takeReady g high s

/-- AMP_READY_CHANGE. -/
def execAmpReadyChange (g : Fin 16) (high : Bool) (s : State) : Host.Outcome State Fault Refusal :=
  .next (runAmpReadyChange g.val high s)

/-- R188, R189: the sampled FAULT level of group g changes. -/
def takeFault (g : Nat) (high : Bool) (s : State) : State :=
  let s1 := s.modAmp g (fun a => { a with faultIn := high })
  conclude s (if high then enterFault g .ampFault s1 else autoLeave g s1)

/-- AMP_FAULT_INPUT_CHANGE (R188); while hardware reset is in force only the input's level is taken. -/
def runAmpFaultInputChange (g : Nat) (high : Bool) (s : State) : State :=
  if high = (s.amp g).faultIn then s
  else if s.pins.resetLow then s.modAmp g (fun a => { a with faultIn := high })
  else takeFault g high s

/-- AMP_FAULT_INPUT_CHANGE. -/
def execAmpFaultInputChange (g : Fin 16) (high : Bool) (s : State) : Host.Outcome State Fault Refusal :=
  .next (runAmpFaultInputChange g.val high s)

/-- WAKE_TIMER_EXPIRY (R186, R188); only a WAKING group has a wake timer running, and it acts at its end alone (log entry 1). -/
def runWakeTimerExpiry (g : Nat) (s : State) : State :=
  whileRunning (fun s =>
    if (s.amp g).state = .waking ∧ runsOut (s.amp g).wakeTimer = true then conclude s (enterFault g .noReady s) else s) s

/-- WAKE_TIMER_EXPIRY. -/
def execWakeTimerExpiry (g : Fin 16) (s : State) : Host.Outcome State Fault Refusal := .next (runWakeTimerExpiry g.val s)

/-- R187: a full window of a group is complete; the timer that starts again has had its count of this frame period (log entry 46). -/
def fullWindow (policy : Nat) (a : Amp) : Amp :=
  judgeIdle policy (judgeDemoted { a with early := a.early - 1, earlyFlag := false, windowTimer := some 0, windowCounted := true })

/-- R187: this frame period brings the window timer of a group to its end. -/
def windowEnds (a : Amp) : Bool := !a.windowCounted && fillsUp (a.window * Config.perSecond) a.windowTimer

/-- FULL_WINDOW (R187); a stopped window timer, and one not at its end (log entry 1), completes no window. -/
def runFullWindow (g : Nat) (s : State) : State :=
  whileRunning (fun s =>
    if windowEnds (s.amp g) then s.modAmp g (fullWindow s.power.policy) else s) s

/-- FULL_WINDOW. -/
def execFullWindow (g : Fin 16) (s : State) : Host.Outcome State Fault Refusal := .next (runFullWindow g.val s)

/-- R185: whether a count of frame periods is one of a group's idle thresholds. -/
def atThreshold (a : Amp) (n : Nat) : Bool :=
  [a.quietAfter, a.standbyAfter, a.offAfter].any (fun t => t != 0 && t * Config.perSecond == n)

/-- R185: the residency of an idle group reaches an idle threshold in this frame period, which it has then counted (log entry 46), and
the idle target is judged. -/
def reachThreshold (policy : Nat) (a : Amp) : Amp :=
  match a.residency with
  | none => a
  | some r =>
    if a.residencyCounted = false ∧ atThreshold a (r + 1) = true then
      judgeIdle policy { a with residency := some (r + 1), residencyCounted := true }
    else a

/-- IDLE_RESIDENCY_THRESHOLD (R185); a stopped residency, and one that stands elsewhere (log entry 1), reaches no threshold. -/
def runIdleResidencyThreshold (g : Nat) (s : State) : State :=
  whileRunning (fun s => s.modAmp g (reachThreshold s.power.policy)) s

/-- IDLE_RESIDENCY_THRESHOLD. -/
def execIdleResidencyThreshold (g : Fin 16) (s : State) : Host.Outcome State Fault Refusal :=
  .next (runIdleResidencyThreshold g.val s)

/-! LOAD-AMP, AMP-POLICY, FAULT-CLEAR -/

/-- The settings of a LOAD-AMP, as they are given (R190). -/
structure AmpFields where
  auto : Bool
  quietAfter : Nat
  standbyAfter : Nat
  offAfter : Nat
  wakeStandby : Nat
  wakeOff : Nat
  threshold : Nat
  window : Nat

/-- R190: the settings are written, clamped; every other field is kept. -/
def Amp.load (f : AmpFields) (a : Amp) : Amp :=
  { a with auto := f.auto, quietAfter := min 3600 f.quietAfter, standbyAfter := min 3600 f.standbyAfter,
           offAfter := min 3600 f.offAfter, wakeStandby := clamp 1 65535 f.wakeStandby, wakeOff := clamp 1 65535 f.wakeOff,
           threshold := min 7 f.threshold, window := clamp 1 3600 f.window }

/-- R190: the settings are written, then demotion, the idle target and the leaving of FAULT are judged. -/
def loadAmp (g : Nat) (f : AmpFields) (s : State) : State :=
  conclude s (autoLeave g (s.modAmp g (fun a => judgeIdle s.power.policy (judgeDemoted (a.load f)))))

/-- LOAD_AMP (R190). -/
def runLoadAmp (h : ReqHdr) (g clearMode quietAfter standbyAfter offAfter wakeStandby wakeOff threshold window : Nat)
    (s : State) : State :=
  takeRequest h 15 .config (fun s =>
    if 15 < g ∨ 1 < clearMode then refuse .refusedRange s
    else done (loadAmp g
      { auto := clearMode == 0, quietAfter := quietAfter, standbyAfter := standbyAfter, offAfter := offAfter,
        wakeStandby := wakeStandby, wakeOff := wakeOff, threshold := threshold, window := window } s)) s

/-- LOAD_AMP. -/
def execLoadAmp (h : ReqHdr) (g clearMode quietAfter standbyAfter offAfter wakeStandby wakeOff threshold window : Nat)
    (s : State) : Host.Outcome State Fault Refusal :=
  .next (runLoadAmp h g clearMode quietAfter standbyAfter offAfter wakeStandby wakeOff threshold window s)

/-- AMP_POLICY (R191). -/
def runAmpPolicy (h : ReqHdr) (deepest : Nat) (s : State) : State :=
  takeRequest h 1 .bridge (fun s =>
    if 3 < deepest then refuse .refusedRange s
    else done (s.setPower { groups := s.power.groups.map (judgeIdle deepest), policy := deepest })) s

/-- AMP_POLICY. -/
def execAmpPolicy (h : ReqHdr) (deepest : Nat) (s : State) : Host.Outcome State Fault Refusal := .next (runAmpPolicy h deepest s)

/-- FAULT_CLEAR (R189). -/
def runFaultClear (h : ReqHdr) (g : Nat) (s : State) : State :=
  takeRequest h 1 .operator (fun s =>
    if 15 < g then refuse .refusedRange s
    else if (s.amp g).state ≠ .fault ∨ (s.amp g).faultIn = true then refuse .refusedState s
    else done (conclude s (leaveFault g s))) s

/-- FAULT_CLEAR. -/
def execFaultClear (h : ReqHdr) (g : Nat) (s : State) : Host.Outcome State Fault Refusal := .next (runFaultClear h g s)

end Sys2Proof.Machine
end

