-- ==== Sys2Proof/Machine/Control.lean ====
section
/-! DEFINITION. The commands of chapter 2 on the cell handler's own tables and on the counters: LOAD-ROUTE, LOAD-AUTH,
SET-REPORT and CLEAR-COUNTS. READ stands in Machine/Reading.lean, RESET-NODE in Machine/Resets.lean. -/

namespace Sys2Proof.Machine

/-- LOAD_ROUTE (R26). -/
def runLoadRoute (h : ReqHdr) (node : Nat) (port : Option Nat) (s : State) : State :=
  takeRequest h 2 .config (fun s =>
    if 254 < node ∨ port.any (fun p => decide (5 < p)) then refuse .refusedRange s
    else done (s.setNode { s.node with routes := s.node.routes.set node port })) s

/-- LOAD_ROUTE. -/
def execLoadRoute (h : ReqHdr) (node : Nat) (port : Option Nat) (s : State) : Host.Outcome State Fault Refusal :=
  .next (runLoadRoute h node port s)

/-- R29, R39: the entry of an identity and a class mask. -/
def authEntryOf (id mask : Nat) : AuthEntry :=
  { id := id, config := mask.testBit 0, bridge := mask.testBit 1, operator := mask.testBit 2 }

/-- R30: the authority table after a LOAD-AUTH of a class mask for an identity, or the refusal of a full table. -/
def loadAuth (auth : List AuthEntry) (id mask : Nat) : Option (List AuthEntry) :=
  if auth.any (fun e => e.id == id) then
    if mask = 0 then some (auth.filter (fun e => e.id != id))
    else some (auth.map (fun e => if e.id = id then authEntryOf id mask else e))
  else if mask = 0 then some auth
  else if auth.length < Config.authEntries then some (auth ++ [authEntryOf id mask])
  else none

/-- LOAD_AUTH (R30); a mask bit that stands for no class is out of range (R39). -/
def runLoadAuth (h : ReqHdr) (node classes : Nat) (s : State) : State :=
  takeRequest h 2 .bridge (fun s =>
    if 254 < node ∨ 7 < classes then refuse .refusedRange s
    else match loadAuth s.node.auth node classes with
      | some t => done (s.setNode { s.node with auth := t })
      | none => refuse .refusedFull s) s

/-- LOAD_AUTH. -/
def execLoadAuth (h : ReqHdr) (node classes : Nat) (s : State) : Host.Outcome State Fault Refusal :=
  .next (runLoadAuth h node classes s)

/-- SET_REPORT (R34); 255 is carried as none (R39, log entry 14). -/
def runSetReport (h : ReqHdr) (node : Option Nat) (s : State) : State :=
  takeRequest h 1 .config (fun s =>
    if node.any (fun n => decide (254 < n) || n == s.node.id) then refuse .refusedRange s
    else done (s.setNode { s.node with report := node })) s

/-- SET_REPORT. -/
def execSetReport (h : ReqHdr) (node : Option Nat) (s : State) : Host.Outcome State Fault Refusal :=
  .next (runSetReport h node s)

/-! CLEAR-COUNTS (R36) -/

/-- R36: a port's CRC-error and control-drop counters become 0. -/
def Port.clearCounts (q : Port) : Port := { q with crcErrors := 0, drops := 0 }

/-- R36: a bus's clip counter becomes 0. -/
def Bus.clearClips (b : Bus) : Bus := { b with clips := 0 }

/-- CLEAR_COUNTS_PORT (R36). -/
def runClearCountsPort (h : ReqHdr) (port : Nat) (s : State) : State :=
  takeRequest h 2 .config (fun s =>
    if 5 < port then refuse .refusedRange s else done (s.modPort port Port.clearCounts)) s

/-- CLEAR_COUNTS_PORT. -/
def execClearCountsPort (h : ReqHdr) (port : Nat) (s : State) : Host.Outcome State Fault Refusal :=
  .next (runClearCountsPort h port s)

/-- CLEAR_COUNTS_BUS (R36). -/
def runClearCountsBus (h : ReqHdr) (bus : Nat) (s : State) : State :=
  takeRequest h 2 .config (fun s =>
    if 63 < bus then refuse .refusedRange s else done (s.modBus bus Bus.clearClips)) s

/-- CLEAR_COUNTS_BUS. -/
def execClearCountsBus (h : ReqHdr) (bus : Nat) (s : State) : Host.Outcome State Fault Refusal :=
  .next (runClearCountsBus h bus s)

/-- CLEAR_COUNTS_EVERY (R36). -/
def runClearCountsEvery (h : ReqHdr) (s : State) : State :=
  takeRequest h 1 .config (fun s =>
    done ((s.setPorts (s.ports.map Port.clearCounts)).setBuses (s.buses.map Bus.clearClips))) s

/-- CLEAR_COUNTS_EVERY. -/
def execClearCountsEvery (h : ReqHdr) (s : State) : Host.Outcome State Fault Refusal := .next (runClearCountsEvery h s)

end Sys2Proof.Machine
end

