-- ==== Sys2Proof/Machine/Paging.lean ====
section
/-! DEFINITION. The commands of chapter 5: PAGE_OPEN, PAGE_CLOSE and the expiries of a claim's time limit and source watch. -/

namespace Sys2Proof.Machine

/-! The targets of a PAGE-OPEN (R84, R85) -/

/-- R85: the target zones of a PAGE-OPEN; none where the set or mask is empty, names no LOADED zone, or names an UNLOADED one. -/
def pageTargets (s : State) : PageTarget → Option (List Nat)
  | .zones set =>
    let zs := membersOf set
    if zs.isEmpty || zs.any (fun z => (s.zone z).isNone) then none else some zs
  | .kinds mask =>
    let zs := (List.range Config.zones).filter (fun z => (s.zone z).any (fun zn => (kindSetOf mask).has zn.kind))
    if 15 < mask || zs.isEmpty then none else some zs

/-! Joining and heading (R86, R87) -/

/-- R87: a new claim of a priority joins the list of zone z, which has room or whose lowest entry it outranks. -/
def joins (s : State) (prio z : Nat) : Bool :=
  match (s.claimList z).getLast? with
  | none => true
  | some low => decide ((s.claimList z).length < Config.listDepth) || decide (claimPriority s low < prio)

/-- R86: a new claim of a priority would head zone z as soon as it has joined. -/
def wouldHead (s : State) (prio z : Nat) : Bool :=
  joins s prio z && (!underAlarm s z || prio == 7) &&
    (match headOf s z with
      | none => true
      | some c => decide (claimPriority s c < prio))

/-- R86: the refusal of a claim that may not wait and would not head its zones at once. -/
def waitRefusal (s : State) (prio : Nat) (all : Bool) (targets : List Nat) : Option ReplyCode :=
  if (if all then targets.all (wouldHead s prio) else targets.any (wouldHead s prio)) then none
  else if targets.all (underAlarm s) && decide (prio < 7) then some .refusedAlarm
  else some .refusedZoneBusy

/-- R87: the entry that a new claim bumps from the list of zone z, if the list is full. -/
def bumpedFrom (s : State) (z : Nat) : Option Nat :=
  if (s.claimList z).length < Config.listDepth then none else (s.claimList z).getLast?

/-- R88: claim c of a priority joins the list of zone z, in place of the lowest entry of a full list. -/
def joinList (prio c z : Nat) (s : State) : State :=
  setList z (insertClaim s prio c ((s.claimList z).take (Config.listDepth - 1))) s

/-- R87, R102: a bumped claim that stands in no list ends. -/
def endBumped (bumped : List Nat) (c : Nat) (e : Ev) : Ev :=
  if bumped.contains c && (standingZones e.st c).isEmpty then endClaim .bumped c e else e

/-- R88: an accepted claim joins its lists, and the event runs through the blocks. -/
def acceptClaim (c : Nat) (cl : Claim) (joining : List Nat) (s : State) : State :=
  let bumped := joining.filterMap (bumpedFrom s)
  let s1 := s.setClaims { s.claims with table := s.claims.table.set c (some cl) }
  let s2 := forEach joining (joinList cl.priority c) s1
  close s (settle false (forUpTo Config.claims (endBumped bumped) { st := s2, ended := [] }))

/-- The choices of a PAGE-OPEN that the record keeps as they are given. -/
structure PageOptions where
  all : Bool
  wait : Bool
  drop : Bool
  chime : Option Nat
  limit : Nat

/-- R88: the record of an accepted claim. -/
def newClaim (h : ReqHdr) (prio source : Nat) (targets : List Nat) (o : PageOptions) (rank : Nat) : Claim :=
  { state := .queued, origin := h.src, originPort := h.port.val, priority := prio, source := source,
    targets := targets.map (fun z => (z, .out)), all := o.all, wait := o.wait, drop := o.drop, chime := o.chime,
    limit := min 600 o.limit, started := false, chimeSkipped := false, voice := none, timer := none, watch := 0, rank := rank }

/-- R84: a chime cadence that may not be named: above 31, or holding no steps now. -/
def badChime (s : State) (chime : Option Nat) : Bool :=
  chime.any (fun n => decide (31 < n) || (s.cadence n).steps.isEmpty)

/-- R84 to R88: what the claim arbiter makes of a PAGE-OPEN. -/
def pageOpen (h : ReqHdr) (priority source : Nat) (target : PageTarget) (grantRule onPreempt : Nat) (o : PageOptions)
    (s : State) : Answer :=
  let prio := min 7 priority
  match pageTargets s target with
  | none => refuse .refusedRange s
  | some targets =>
    if 127 < source ∨ 1 < grantRule ∨ 1 < onPreempt ∨ badChime s o.chime then refuse .refusedRange s
    else match lowestFree s with
      | none => refuse .refusedFull s
      | some c =>
        match (if o.wait then none else waitRefusal s prio o.all targets) with
        | some code => refuse code s
        | none =>
          let joining := targets.filter (joins s prio)
          if joining.isEmpty then refuse .refusedFull s
          else { code := .done, data := [byteOf c],
                 state := acceptClaim c (newClaim h prio source targets o (claimsInUse s)) joining s }

/-- R39: the payload length of a PAGE-OPEN. -/
def pageLength : PageTarget → Nat
  | .zones _ => 21
  | .kinds _ => 10

/-- PAGE_OPEN (R84); the class is judged from the priority field as received (R28). -/
def runPageOpen (h : ReqHdr) (priority source : Nat) (target : PageTarget) (grantRule : Nat) (wait : Bool) (onPreempt : Nat)
    (chime : Option Nat) (limit : Nat) (s : State) : State :=
  takeRequest h (pageLength target) (if priority < 7 then .operator else .bridge)
    (pageOpen h priority source target grantRule onPreempt
      { all := grantRule == 1, wait := wait, drop := onPreempt == 1, chime := chime, limit := limit }) s

/-- PAGE_OPEN. -/
def execPageOpen (h : ReqHdr) (priority source : Nat) (target : PageTarget) (grantRule : Nat) (wait : Bool) (onPreempt : Nat)
    (chime : Option Nat) (limit : Nat) (s : State) : Host.Outcome State Fault Refusal :=
  .next (runPageOpen h priority source target grantRule wait onPreempt chime limit s)

/-- R102: claim c ends for a reason, and the event runs through the blocks. -/
def finishClaim (reason : EndReason) (c : Nat) (s : State) : State :=
  close s (settle false (endClaim reason c { st := s, ended := [] }))

/-- PAGE_CLOSE (R99). -/
def runPageClose (h : ReqHdr) (claim : Nat) (s : State) : State :=
  takeRequest h 1 .operator (fun s =>
    match s.claim claim with
    | none => refuse .refusedRange s
    | some cl => if cl.origin = h.src then done (finishClaim .closed claim s) else refuse .refusedRange s) s

/-- PAGE_CLOSE. -/
def execPageClose (h : ReqHdr) (claim : Nat) (s : State) : Host.Outcome State Fault Refusal := .next (runPageClose h claim s)

/-- TIME_LIMIT_EXPIRY (R100): the time-limit timer of a claim reaches 0; a claim whose timer is stopped, or not at its end (log entry
1), has no expiry. -/
def runTimeLimitExpiry (c : Nat) (s : State) : State :=
  whileRunning (fun s => if (s.claim c).any (fun cl => runsOut cl.timer) then finishClaim .timeLimit c s else s) s

/-- TIME_LIMIT_EXPIRY. -/
def execTimeLimitExpiry (c : Fin 48) (s : State) : Host.Outcome State Fault Refusal := .next (runTimeLimitExpiry c.val s)

/-- R101: the source watch of a claim reaches its limit in this frame period (log entry 1); an available source sets it to 0. -/
def sourceLost (s : State) (cl : Claim) : Bool := !streamAvailable s cl.source && decide (Config.sourceWatch ≤ cl.watch + 1)

/-- SOURCE_WATCH_EXPIRY (R101): the source of a claim has been absent for 48,000 frame periods. -/
def runSourceWatchExpiry (c : Nat) (s : State) : State :=
  whileRunning (fun s =>
    if (s.claim c).any (sourceLost s) then finishClaim .sourceLost c s else s) s

/-- SOURCE_WATCH_EXPIRY. -/
def execSourceWatchExpiry (c : Fin 48) (s : State) : Host.Outcome State Fault Refusal := .next (runSourceWatchExpiry c.val s)

end Sys2Proof.Machine
end

