-- ==== Sys2Proof/Machine/Ports.lean ====
section
/-! DEFINITION. The commands of chapter 1: loss timer expiry, departures, and the loads of ports and streams. The arrival of a
frame stands in Machine/Links.lean, the exchange with the converters in Machine/Mix.lean. -/

namespace Sys2Proof.Machine

/-- R3: the loss length of a loss-timeout setting. -/
def lossLength (lt : Nat) : Nat := 16 * (lt + 1)

/-- R3: a port becomes DOWN, its good count 0 and its loss timer stopped. -/
def Port.goDown (q : Port) : Port := { q with state := .down, good := 0, loss := none }

/-- R125: set or clear the island hold flag. -/
def setIslandHold (b : Bool) (s : State) : State := s.setAlarm { s.alarm with islandHold := b }

/-- R124, R125: a trunk has left UP: the beacon follows the other trunk while it is UP, otherwise the island hold begins. -/
def trunkLost (s : State) : State := if islandTiming s then setIslandHold true s else computeBeacon s

/-- R3: port p becomes DOWN by its loss timer; an UP port leaves UP with the changes of R2. -/
def portLost (p : Nat) (s : State) : State :=
  if s.portUp p then
    let s1 := reselectStreams p (s.modPort p (fun q => { q.goDown with rxAlarm := none }))
    let s2 := portNotice p false s1
    concludeAlarm s (if p < 2 then trunkLost s2 else s2)
  else s.modPort p Port.goDown

/-- LOSS_TIMER_EXPIRY (R3): the loss timer of a SEEKING or UP port reaches the loss length. A DOWN port has no running timer, and a
timer that a good frame has restarted is not at its end, so the expiry does not take place (log entry 1). -/
def runLossTimerExpiry (p : Nat) (s : State) : State :=
  whileRunning (fun s => if fillsUp (lossLength (s.port p).lt) (s.port p).loss then portLost p s else s) s

/-- LOSS_TIMER_EXPIRY. -/
def execLossTimerExpiry (p : Fin 6) (s : State) : Host.Outcome State Fault Refusal := .next (runLossTimerExpiry p.val s)

/-! Departing frames (R16, R17) -/

/-- R17: the value a destination carries: the output value of the bus that names it, or 0. -/
def destValue (s : State) (d : Dest) : Sample :=
  match s.buses.find? (fun b => b.dests.contains d) with
  | some b => b.output
  | none => 0

/-- R16: the alarm word of a departing frame: zero on a trunk, the resolved alarm word on a spur. -/
def departingWord (p : Nat) (s : State) : AlarmWord := if p < 2 then { mask := 0, kind := none } else resolvedWord s

/-- R16: the frame port p sends. -/
def departingFrame (p : Nat) (s : State) : List Byte :=
  let w := departingWord p s
  frameBytes s.node.id w.mask (kindNum w.kind) ((List.range 24).map (fun k => destValue s (.slot p k)))
    ((s.port p).egress.headD emptyCell)

/-- PORT_DEPARTURE (R16): a port sends one frame, whatever its state, and the oldest cell leaves its queue. -/
def runPortDeparture (p : Nat) (s : State) : State :=
  whileRunning (fun s => s.modPort p (fun q => { q with sent := departingFrame p s, egress := q.egress.tail })) s

/-- PORT_DEPARTURE. -/
def execPortDeparture (p : Fin 6) (s : State) : Host.Outcome State Fault Refusal := .next (runPortDeparture p.val s)

/-! LOAD-PORT (R6) -/

/-- R6: the new setting is compared with the frame periods already counted, and may take the port down at once. -/
def setLossTimeout (p lt : Nat) (s : State) : State :=
  let s1 := s.modPort p (fun q => { q with lt := min 15 lt })
  match (s1.port p).loss with
  | some n => if lossLength (s1.port p).lt ≤ n then portLost p s1 else s1
  | none => s1

/-- LOAD_PORT (R6). -/
def runLoadPort (h : ReqHdr) (port lt : Nat) (s : State) : State :=
  takeRequest h 2 .config (fun s =>
    if 5 < port then refuse .refusedRange s else done (setLossTimeout port lt s)) s

/-- LOAD_PORT. -/
def execLoadPort (h : ReqHdr) (port lt : Nat) (s : State) : Host.Outcome State Fault Refusal := .next (runLoadPort h port lt s)

/-! LOAD-STREAM (R13) -/

/-- R13, R39: a primary source as it is carried; none where it is out of range. -/
def primaryOf (l : RawLoc) : Option Source :=
  if l.form = 0 ∧ l.num ≤ 5 ∧ l.slot ≤ 23 then some (.slot l.num l.slot)
  else if l.form = 1 ∧ l.num ≤ 7 then some (.localIn l.num)
  else none

/-- R13, R39: a backup source as it is carried: absent in form 2, a port and slot in form 0, otherwise out of range. -/
def backupOf (l : RawLoc) : Option (Option (Nat × Nat)) :=
  if l.form = 2 then some none
  else if l.form = 0 ∧ l.num ≤ 5 ∧ l.slot ≤ 23 then some (some (l.num, l.slot))
  else none

/-- LOAD_STREAM_MAP (R13): both sources are replaced, the sample becomes 0, and the state is selected. -/
def runLoadStreamMap (h : ReqHdr) (n : Nat) (primary backup : RawLoc) (s : State) : State :=
  takeRequest h 8 .config (fun s =>
    match primaryOf primary, backupOf backup with
    | some p, some b =>
      if 127 < n then refuse .refusedRange s
      else done (s.setStreams (s.streams.set n
        { state := selectState s (some p) b, primary := some p, backup := b, sample := 0 }))
    | _, _ => refuse .refusedRange s) s

/-- LOAD_STREAM_MAP. -/
def execLoadStreamMap (h : ReqHdr) (n : Nat) (primary backup : RawLoc) (s : State) : Host.Outcome State Fault Refusal :=
  .next (runLoadStreamMap h n primary backup s)

/-- LOAD_STREAM_UNMAP (R13). -/
def runLoadStreamUnmap (h : ReqHdr) (n : Nat) (s : State) : State :=
  takeRequest h 2 .config (fun s =>
    if 127 < n then refuse .refusedRange s else done (s.setStreams (s.streams.set n streamReset))) s

/-- LOAD_STREAM_UNMAP. -/
def execLoadStreamUnmap (h : ReqHdr) (n : Nat) (s : State) : Host.Outcome State Fault Refusal :=
  .next (runLoadStreamUnmap h n s)

end Sys2Proof.Machine
end

