-- ==== Sys2Proof/Machine/XPoints.lean ====
section
/-! DEFINITION. The live crosspoint table's changes (section 3.5), the application of a scene (section 9.3) and the cue engine
(section 9.4). -/

namespace Sys2Proof.Machine

/-- R46: whether an entry is moving. -/
def XPoint.moving (x : XPoint) : Bool := x.pending.isSome || (x.mode == ChangeMode.ramp && x.cur != x.target)

/-- R48: an entry is brought to rest. -/
def XPoint.complete (x : XPoint) : XPoint :=
  match x.pending with
  | some c => { x with cur := c, pending := none, wait := 0 }
  | none => if x.mode = .ramp then { x with cur := x.target } else x

/-- R48: every entry of a bus is brought to rest and the RETIRING ones are removed. -/
def completeFades (l : List XPoint) : List XPoint := (l.map XPoint.complete).filter (fun x => !x.retiring)

/-- R159: the step of a ramp over N frame periods, rounded upward. -/
def rampStep (delta n : Nat) : Nat := max 1 ((delta + n - 1) / n)

/-- R47, R159: an entry is given a target and a mode under a crossfade time in milliseconds. A RAMP entry has a step (Table 3-2); the
step of one set with time 0, which no rule states, is a free value (log entry 29). -/
def XPoint.assign (x : XPoint) (target : Nat) (mode : ChangeMode) (time : Nat) : XPoint :=
  let x := { x with target := target, mode := mode, pending := none, wait := 0,
                    step := if mode = ChangeMode.ramp then some ((Config.stepOfNoTime (distance x.cur target)).val + 1) else none }
  if time = 0 ∨ mode = ChangeMode.cut then { x with cur := target }
  else match mode with
    | .ramp => { x with step := some (rampStep (distance x.cur target) (time * Config.perMs)) }
    | .zeroCross => { x with pending := some target }
    | .cut => { x with cur := target }

/-- R47: a new entry for a stream, with the stream's current sample as its previous sample. -/
def newEntry (stream : Nat) (sample : Sample) : XPoint :=
  { stream := stream, cur := 0, target := 0, mode := .cut, step := none, pending := none, wait := 0, prev := sample,
    retiring := false }

/-- R158: a live entry under a scene's entries for its bus: set where the scene names its stream, retired where not. -/
def setLive (entries : List SceneEntry) (time : Nat) (x : XPoint) : XPoint :=
  match entries.find? (fun e => e.stream == x.stream) with
  | some e => x.assign e.coef e.mode time
  | none => { x.assign 0 x.mode time with retiring := true }

/-- R158: a bus's entries after a scene's entries for it are set against them. DESIGN CHOICE (log entry 34): entries for streams the
bus does not yet feed join its list in the order of the scene's list. -/
def setAgainst (sample : Nat → Sample) (entries : List SceneEntry) (time : Nat) (live : List XPoint) : List XPoint :=
  live.map (setLive entries time) ++
    ((entries.filter (fun e => !live.any (fun x => x.stream == e.stream))).map (fun e =>
      (newEntry e.stream (sample e.stream)).assign e.coef e.mode time))

/-- R158: one bus of a scene's scope; a bus of another role than ZONE is passed over. -/
def applyToBus (sample : Nat → Sample) (sc : Scene) (time : Nat) (b : Nat) (bus : Bus) : Bus :=
  if bus.role = .zone ∧ sc.scope.getLsbD b then
    { bus with live := setAgainst sample (sc.entries.filter (fun e => e.bus == b)) time (completeFades bus.live) }
  else bus

/-- R158, R159: a scene is applied with a crossfade time in milliseconds. -/
def applyScene (scene time : Nat) (s : State) : State :=
  s.setBuses (s.buses.mapIdx (fun b bus => applyToBus (fun n => (s.stream n).sample) (s.scene scene) time b bus))

/-! The cue engine (R162) -/

/-- R162: whether a ZONE bus of the watched scope holds a moving entry. -/
def watchedMoving (s : State) : Bool :=
  (membersOf s.showCtl.watched).any (fun b => (s.bus b).role == .zone && (s.bus b).live.any XPoint.moving)

/-- R162: a FADING engine becomes SETTLED when no watched entry is moving. -/
def cueSettle (s : State) : State :=
  if s.showCtl.engine = .fading ∧ watchedMoving s = false then s.setShow { s.showCtl with engine := .settled } else s

/-- R163: the auto-follow timer of a cue, in frame periods. -/
def autoFollowPreset (c : Cue) : Option Nat := c.autoFollow.map (fun d => if d = 0 then 1 else d * Config.perMs)

/-- R160 to R164: a LOADED cue is taken: its scene is applied, the engine takes it, the auto-follow timer is set and the cue mark
compared. -/
def takeCue (n : Nat) (c : Cue) (s : State) : State :=
  let s1 := applyScene c.scene c.crossfade s
  cueSettle (s1.setShow { s1.showCtl with
    engine := .fading, current := some n, watched := (s1.scene c.scene).scope, autoFollow := autoFollowPreset c,
    cueLatch := s1.showCtl.cueLatch || s1.showCtl.cueMark == some n })

/-- R160: the number of the next cue. -/
def nextCue (s : State) : Nat :=
  match s.showCtl.current with
  | none => 0
  | some n => ((s.cue n).bind (·.next)).getD (n + 1)

/-- R160: a GO is performed; none where it is refused. -/
def performGo (s : State) : Option State :=
  if s.showCtl.showStop then none
  else (s.cue (nextCue s)).map (fun c => takeCue (nextCue s) c s)

/-- R163, R166: a GO performed without a request; one that is refused changes nothing. -/
def silentGo (s : State) : State := (performGo s).getD s

end Sys2Proof.Machine
end

