-- ==== Sys2Proof/Machine/Mix.lean ====
section
/-! DEFINITION. The commands of chapter 3 (MIX_PERIOD, LOAD_OUTPUT) and the exchange with the converters (R12, R19, R135,
R178). -/

namespace Sys2Proof.Machine

/-! Stage 1: the zero-cross take (R52) -/

/-- R52: an entry with a pending coefficient takes it or waits; s is the current sample of its source. -/
def zeroCrossTake (hold : Bool) (s : Sample) (x : XPoint) : XPoint :=
  match x.mode, x.pending with
  | .zeroCross, some c =>
    if hold then x
    else if s = 0 ∨ s.sign ≠ x.prev.sign ∨ Config.zeroCrossWait ≤ x.wait then
      { x with cur := c, pending := none, wait := 0 }
    else { x with wait := x.wait + 1 }
  | _, _ => x

/-! Stages 2 to 4: the program value and composition (R53 to R55) -/

/-- R53: the program sum of a bus. -/
def programSum (sample : Nat → Sample) (live : List XPoint) : Int :=
  (live.map (fun x => sample x.stream * (x.cur : Int))).sum

/-- R53: the program value. -/
def programValue (sample : Nat → Sample) (live : List XPoint) : Int := round14 (programSum sample live)

/-- R55: the composed value of a ZONE bus that belongs to a zone. -/
def compose (vp vv va : Int) (kp kv ka : Nat) : Int := round14 (vp * kp + vv * kv + va * ka)

/-- R41, R54, R55: the composed value of a ZONE bus. -/
def composeZone (s : State) (zone : Option Nat) (live : List XPoint) : Int :=
  let vp := programValue (streamSample s) live
  match zone.bind (fun z => (s.zone z).map (fun zn => (z, zn))) with
  | none => compose vp 0 0 16384 0 0
  | some (z, zn) =>
    compose vp (sourceSample s (voiceSource s z zn)) (sourceSample s (alarmSource s zn)) zn.kp zn.kv zn.ka

/-- R60: the group and member index whose output bus is bus b. -/
def memberOfBus (s : State) (b : Nat) : Option (Nat × Nat) :=
  ((allMembers s).find? (fun t => t.2.2.bus == b)).map (fun t => (t.1, t.2.1))

/-- R60: what member m of a group hears: every talker of the group but itself. -/
def mixMinus (s : State) (g : Group) (m : Nat) : Int :=
  round14 ((g.talkers.filter (fun j => j != m)).map (fun j =>
    match g.members[j]? with
    | some mb => streamSample s mb.stream * (mb.gain : Int)
    | none => 0)).sum

/-- R41: the composed output of a bus before saturation. -/
def composedOutput (s : State) (b : Nat) (bus : Bus) (live : List XPoint) : Int :=
  match bus.role with
  | .unused => 0
  | .zone => composeZone s bus.zone live
  | .talk => match memberOfBus s b with
    | some (g, m) => mixMinus s (s.group g) m
    | none => 0

/-! Stages 5 and 6: saturation and delay (R56, R57) -/

/-- R57: a value is written into a line of some length; the oldest leaves it. -/
def throughLine (line : List Sample) (x : Sample) : List Sample × Sample :=
  match line with
  | [] => ([], x)
  | oldest :: rest => (rest ++ [x], oldest)

/-- R56, R57: a composed value is saturated, counted when it is clamped, and written through the bus's line. -/
def Bus.emit (o : Int) (b : Bus) : Bus :=
  { b with clips := if saturate o = o then b.clips else bump16 b.clips,
           line := (throughLine b.line (saturate o)).1, output := (throughLine b.line (saturate o)).2 }

/-! Stage 7: the ramp advance (R58, R59) -/

/-- R58: a RAMP entry moves toward its target. -/
def XPoint.advance (x : XPoint) : XPoint :=
  if x.mode = .ramp then { x with cur := moveToward x.cur x.target (x.step.getD 32767) } else x

/-- R58, R59: the entries of a bus after stage 7, RETIRING ones removed when they have come to silence. -/
def advanceEntries (hold : Bool) (l : List XPoint) : List XPoint :=
  if hold then l
  else (l.map XPoint.advance).filter (fun x => !(x.retiring && x.cur == 0 && x.pending.isNone))

/-- R58: the layer coefficients of a zone move toward their targets. -/
def Zone.advance (z : Zone) : Zone :=
  { z with kp := moveToward z.kp z.kpTarget z.layerStep, kv := moveToward z.kv z.kvTarget z.layerStep,
           ka := moveToward z.ka z.kaTarget z.layerStep }

/-- R51: one bus of a mix period, computed from the state the mix period finds. -/
def mixBus (s : State) (b : Nat) (bus : Bus) : Bus :=
  let hold := s.showCtl.hold
  let taken := bus.live.map (fun x => zeroCrossTake hold (streamSample s x.stream) x)
  let out := (bus.emit (composedOutput s b bus taken))
  { out with live := advanceEntries hold (taken.map (fun x => { x with prev := streamSample s x.stream })) }

/-- R51: the mix period of the engine itself: every bus, then the layer coefficients of every zone. -/
def mixAll (s : State) : State :=
  (s.setBuses (s.buses.mapIdx (mixBus s))).setZones (s.zones.map (Option.map Zone.advance))

/-- MIX_PERIOD (R51): the mix, the settling of the cue engine (R162) and the reports of program activity (R49). -/
def runMixPeriod (s : State) : State := whileRunning (fun s => conclude s (cueSettle (mixAll s))) s

/-- MIX_PERIOD. -/
def execMixPeriod (s : State) : Host.Outcome State Fault Refusal := .next (runMixPeriod s)

/-! LOAD-OUTPUT (R42 to R45) -/

/-- R42, R39: a destination as it is carried; none where it is out of range. -/
def destOf (l : RawLoc) : Option Dest :=
  if l.form = 0 ∧ l.num ≤ 5 ∧ l.slot ≤ 23 then some (.slot l.num l.slot)
  else if l.form = 1 ∧ l.num ≤ 7 then some (.localOut l.num)
  else none

/-- R42, R39: the role that a number stands for. -/
def roleOf : Nat → Option Role
  | 0 => some .unused
  | 1 => some .zone
  | 2 => some .talk
  | _ => none

/-- R45: the sum of the delay lengths of some buses. -/
def delaySum (bs : List Bus) : Nat := (bs.map (fun b => b.line.length)).sum

/-- R45: the delay base of bus b. -/
def delayBase (s : State) (b : Nat) : Nat := delaySum (s.buses.take b)

/-- R42 check 2: a destination stands in the list of another bus than b. -/
def destInUse (s : State) (b : Nat) (ds : List Dest) : Bool :=
  (List.range Config.buses).any (fun n => n != b && (s.bus n).dests.any (fun d => ds.contains d))

/-- R42 check 3: the bus belongs to a zone or to an intercom member and is given another role. -/
def stranded (s : State) (b : Nat) (role : Role) : Bool :=
  ((s.bus b).role == .zone && (s.bus b).zone.isSome && role != .zone) ||
  ((s.bus b).role == .talk && (memberOfBus s b).isSome && role != .talk)

/-- R43: a bus record after an accepted LOAD-OUTPUT. -/
def Bus.load (role : Role) (delay : Nat) (ds : List Dest) (b : Bus) : Bus :=
  { b with role := role, dests := ds,
           zone := if role = .zone ∧ b.role = .zone then b.zone else none,
           live := if role = .zone ∧ b.role = .zone then b.live else [],
           line := if delay = b.line.length ∧ role = b.role then b.line else List.replicate delay 0 }

/-- R43, R135: the fallback flag is cleared by a list that names a local output. -/
def endFallback (ds : List Dest) (s : State) : State :=
  if ds.any (fun d => match d with
    | .localOut _ => true
    | .slot _ _ => false) then s.setAlarm { s.alarm with fallback := false } else s

/-- R42, R43: what the mix engine makes of a LOAD-OUTPUT. -/
def loadOutput (bus role delay : Nat) (dests : List RawLoc) (s : State) : Answer :=
  let delay := min 4800 delay
  match roleOf role, dests.mapM destOf with
  | some r, some ds =>
    if 63 < bus ∨ 4 < dests.length ∨ ¬ ds.Nodup then refuse .refusedRange s
    else if destInUse s bus ds then refuse .refusedBusy s
    else if stranded s bus r then refuse .refusedBusy s
    else if (s.bus bus).line.length < delay ∧ Config.delayPool < delaySum (s.buses.set bus ((s.bus bus).load r delay ds)) then
      refuse .refusedNospace s
    else done (conclude s (cueSettle (endFallback ds (s.modBus bus (Bus.load r delay ds)))))
  | _, _ => refuse .refusedRange s

/-- LOAD_OUTPUT (R42). -/
def runLoadOutput (h : ReqHdr) (bus role delay : Nat) (dests : List RawLoc) (s : State) : State :=
  takeRequest h (5 + 3 * dests.length) .config (loadOutput bus role delay dests) s

/-- LOAD_OUTPUT. -/
def execLoadOutput (h : ReqHdr) (bus role delay : Nat) (dests : List RawLoc) (s : State) : Host.Outcome State Fault Refusal :=
  .next (runLoadOutput h bus role delay dests s)

/-! The exchange with the converters -/

/-- R135: the fallback sample. -/
def fallbackSample (s : State) : Sample :=
  match fallbackSignal s with
  | none => 0
  | some k =>
    match signalVoice s k with
    | none => 0
    | some v => saturate (round14 ((s.voice v).sample * ((s.signal k).level : Int)))

/-- R19: the sample sent to converter output j. -/
def localOutput (s : State) (j : Nat) : Sample := if s.alarm.fallback then fallbackSample s else destValue s (.localOut j)

/-- R178: the window in progress takes a sample of its input, in the frame periods that follow its beginning: an exchange of the frame
period in which it began, taken before or after its beginning, gives it none (the mark of log entry 47). DESIGN CHOICE (log entry 42): a
window that holds its 4,800 samples and whose completion has not been taken yet lets a further sample go. -/
def takeWindowSample (inputs : List Sample) (w : Window) : Window :=
  if w.fresh = false ∧ w.elapsed < Config.windowLength then
    { w with elapsed := w.elapsed + 1, sum := w.sum + ((inputs.getD w.input 0) - w.offset).natAbs }
  else w

/-- LOCAL_EXCHANGE (R12, R19, R178): eight samples are taken into their streams and the meter, eight are sent. -/
def runLocalExchange (inputs : List (BitVec 24)) (s : State) : State :=
  whileRunning (fun s =>
    let ins := (List.range 8).map (fun i => sampleOfBits (inputs.getD i 0))
    let s1 := modWindow (takeWindowSample ins) (writeLocalInputs ins s)
    s1.setPins { s1.pins with localIn := ins, localOut := (List.range 8).map (localOutput s) }) s

/-- LOCAL_EXCHANGE. -/
def execLocalExchange (inputs : List (BitVec 24)) (s : State) : Host.Outcome State Fault Refusal :=
  .next (runLocalExchange inputs s)

end Sys2Proof.Machine
end

