-- ==== Sys2Proof/Machine/Show.lean ====
section
/-! DEFINITION. The commands of chapter 9: the loads of scenes, cues and lines, GO, GOTO, APPLY_SCENE, SHOW_CLEAR, and the events
of gate lines, stretch timers and the auto-follow timer. -/

namespace Sys2Proof.Machine

/-! Scenes (R155, R156) -/

/-- R155: the number of entries held by all scenes together. -/
def poolUsed (s : State) : Nat := (s.showCtl.scenes.map (fun sc => sc.entries.length)).sum

/-- Replace a scene. -/
def setScene (n : Nat) (sc : Scene) (s : State) : State :=
  s.setShow { s.showCtl with scenes := s.showCtl.scenes.set n sc }

/-- LOAD_SCENE_SCOPE (R156). -/
def runLoadSceneScope (h : ReqHdr) (n : Nat) (scope : BitVec 64) (s : State) : State :=
  takeRequest h 10 .config (fun s =>
    if 15 < n then refuse .refusedRange s else done (setScene n { scope := scope, entries := [] } s)) s

/-- LOAD_SCENE_SCOPE. -/
def execLoadSceneScope (h : ReqHdr) (n : Nat) (scope : BitVec 64) (s : State) : Host.Outcome State Fault Refusal :=
  .next (runLoadSceneScope h n scope s)

/-- R155, R39: the change mode that a number stands for. -/
def changeModeOf : Nat → Option ChangeMode
  | 0 => some .ramp
  | 1 => some .zeroCross
  | 2 => some .cut
  | _ => none

/-- R156: an entry as it is stored, its coefficient clamped; none where a field is out of its range or the bus lies outside the
scope. -/
def RawEntry.toEntry (scope : BitVec 64) (r : RawEntry) : Option SceneEntry :=
  if r.bus ≤ 63 ∧ r.stream ≤ 127 ∧ scope.getLsbD r.bus then
    (changeModeOf r.mode).map (fun m => { bus := r.bus, stream := r.stream, coef := min 32767 r.coef, mode := m })
  else none

/-- R155: a scene's list holds at most 16 entries for one bus and no two for the same bus and stream. -/
def entriesFit (l : List SceneEntry) : Bool :=
  decide ((l.map (fun e => (e.bus, e.stream))).Nodup) &&
    l.all (fun e => decide (l.countP (fun d => d.bus == e.bus) ≤ 16))

/-- R156: what the show controller makes of the entries of a LOAD-SCENE. -/
def loadEntries (n : Nat) (first : Bool) (entries : List RawEntry) (s : State) : Answer :=
  let sc := s.scene n
  let kept := if first then [] else sc.entries
  match entries.mapM (RawEntry.toEntry sc.scope) with
  | none => refuse .refusedRange s
  | some es =>
    if 15 < n ∨ 4 < entries.length ∨ entriesFit (kept ++ es) = false then refuse .refusedRange s
    else if Config.scenePool < poolUsed s - sc.entries.length + kept.length + es.length then refuse .refusedFull s
    else done (setScene n { sc with entries := kept ++ es } s)

/-- LOAD_SCENE_ENTRIES (R156). -/
def runLoadSceneEntries (h : ReqHdr) (n : Nat) (first : Bool) (entries : List RawEntry) (s : State) : State :=
  takeRequest h (4 + 5 * entries.length) .config (loadEntries n first entries) s

/-- LOAD_SCENE_ENTRIES. -/
def execLoadSceneEntries (h : ReqHdr) (n : Nat) (first : Bool) (entries : List RawEntry) (s : State) :
    Host.Outcome State Fault Refusal :=
  .next (runLoadSceneEntries h n first entries s)

/-! Cues (R157) -/

/-- Replace a cue record. -/
def setCue (n : Nat) (c : Option Cue) (s : State) : State := s.setShow { s.showCtl with cues := s.showCtl.cues.set n c }

/-- LOAD_CUE_LOAD (R157). -/
def runLoadCueLoad (h : ReqHdr) (n scene crossfade : Nat) (autoFollow next : Option Nat) (s : State) : State :=
  takeRequest h 8 .config (fun s =>
    if 63 < n ∨ 15 < scene ∨ next.any (fun m => decide (63 < m)) = true then refuse .refusedRange s
    else done (setCue n (some { scene := scene, crossfade := min 60000 crossfade, autoFollow := autoFollow.map (min 60000),
                                next := next }) s)) s

/-- LOAD_CUE_LOAD. -/
def execLoadCueLoad (h : ReqHdr) (n scene crossfade : Nat) (autoFollow next : Option Nat) (s : State) :
    Host.Outcome State Fault Refusal :=
  .next (runLoadCueLoad h n scene crossfade autoFollow next s)

/-- LOAD_CUE_UNLOAD (R157). -/
def runLoadCueUnload (h : ReqHdr) (n : Nat) (s : State) : State :=
  takeRequest h 2 .config (fun s => if 63 < n then refuse .refusedRange s else done (setCue n none s)) s

/-- LOAD_CUE_UNLOAD. -/
def execLoadCueUnload (h : ReqHdr) (n : Nat) (s : State) : Host.Outcome State Fault Refusal := .next (runLoadCueUnload h n s)

/-- LOAD_CUE_MARK (R157). -/
def runLoadCueMark (h : ReqHdr) (n : Option Nat) (s : State) : State :=
  takeRequest h 2 .config (fun s =>
    if n.any (fun m => decide (63 < m)) = true then refuse .refusedRange s
    else done (s.setShow { s.showCtl with cueMark := n })) s

/-- LOAD_CUE_MARK. -/
def execLoadCueMark (h : ReqHdr) (n : Option Nat) (s : State) : Host.Outcome State Fault Refusal := .next (runLoadCueMark h n s)

/-! Lines (R171) -/

/-- R165: the debounce setting in milliseconds that a choice stands for. -/
def debounceOf : Nat → Option Nat
  | 0 => some 0
  | 1 => some 1
  | 2 => some 5
  | 3 => some 10
  | 4 => some 50
  | _ => none

/-- R166: the gate mode that a number stands for. -/
def gateModeOf : Nat → Option GateMode
  | 0 => some .off
  | 1 => some .go
  | 2 => some .hold
  | 3 => some .stop
  | _ => none

/-- R171: a gate line's settings are written, its count becomes 0, and HOLD is judged again. -/
def setGate (n setting : Nat) (mode : GateMode) (s : State) : State :=
  judgeHold (s.modGate n (fun g => { g with setting := setting, mode := mode, count := 0 }))

/-- LOAD_LINE_GATE (R171). -/
def runLoadLineGate (h : ReqHdr) (line setting mode : Nat) (s : State) : State :=
  takeRequest h 3 .config (fun s =>
    match debounceOf setting, gateModeOf mode with
    | some d, some m => if 3 < line then refuse .refusedRange s else done (setGate line d m s)
    | _, _ => refuse .refusedRange s) s

/-- LOAD_LINE_GATE. -/
def execLoadLineGate (h : ReqHdr) (line setting mode : Nat) (s : State) : Host.Outcome State Fault Refusal :=
  .next (runLoadLineGate h line setting mode s)

/-- R169: the sources, in the order of Table 9-1. -/
def lineSources : List LineSource :=
  [.off, .on, .alarmAny, .alarmGeneral, .showStop, .cueMark, .theatreVoice, .ampFaultAny, .trunkLoss, .island]

/-- R170: the stretch times in milliseconds, in the order R170 lists them. -/
def stretchTimes : List Nat := [1, 5, 10, 20, 50, 100, 200, 500]

/-- R170: the widths, in the order R170 lists them. -/
def lineWidths : List LineWidth := [.direct, .stretch, .latch]

/-- R171: a status line's settings are written; a source that is true is then taken as a rise, though the source itself has not
risen, so that a later clear leaves the line LOW. -/
def loadedLine (s : State) (src : LineSource) (w : LineWidth) (stretch : Nat) : Line :=
  let l : Line := { source := src, width := w, stretch := stretch, level := false, timer := 0, latched := false, rose := false }
  if sourceTrue s src then { lineRise l with rose := false } else l

/-- LOAD_LINE_STATUS (R171); lines 4 to 7 are status lines 0 to 3. -/
def runLoadLineStatus (h : ReqHdr) (line source width stretch : Nat) (s : State) : State :=
  takeRequest h 4 .config (fun s =>
    match lineSources[source]?, lineWidths[width]?, stretchTimes[stretch]? with
    | some src, some w, some t =>
      if line < 4 ∨ 7 < line then refuse .refusedRange s
      else done (s.modLine (line - 4) (fun _ => loadedLine s src w t))
    | _, _, _ => refuse .refusedRange s) s

/-- LOAD_LINE_STATUS. -/
def execLoadLineStatus (h : ReqHdr) (line source width stretch : Nat) (s : State) : Host.Outcome State Fault Refusal :=
  .next (runLoadLineStatus h line source width stretch s)

/-! GO, GOTO and APPLY-SCENE (R160, R161) -/

/-- GO (R160). -/
def runGo (h : ReqHdr) (s : State) : State :=
  takeRequest h 0 .operator (fun s =>
    match performGo s with
    | none => refuse .refusedState s
    | some t => done (conclude s t)) s

/-- GO. -/
def execGo (h : ReqHdr) (s : State) : Host.Outcome State Fault Refusal := .next (runGo h s)

/-- GOTO (R160). -/
def runGoto (h : ReqHdr) (n : Nat) (s : State) : State :=
  takeRequest h 1 .operator (fun s =>
    match s.cue n with
    | none => refuse .refusedRange s
    | some c => if s.showCtl.showStop then refuse .refusedState s else done (conclude s (takeCue n c s))) s

/-- GOTO. -/
def execGoto (h : ReqHdr) (n : Nat) (s : State) : Host.Outcome State Fault Refusal := .next (runGoto h n s)

/-- APPLY_SCENE (R161). -/
def runApplyScene (h : ReqHdr) (n crossfade : Nat) (s : State) : State :=
  takeRequest h 3 .operator (fun s =>
    if 15 < n then refuse .refusedRange s
    else done (conclude s (cueSettle (applyScene n (min 60000 crossfade) s)))) s

/-- APPLY_SCENE. -/
def execApplyScene (h : ReqHdr) (n crossfade : Nat) (s : State) : Host.Outcome State Fault Refusal :=
  .next (runApplyScene h n crossfade s)

/-- AUTO_FOLLOW_EXPIRY (R163): the timer stops and a GO is performed without reply. A stopped timer, one that HOLD keeps at its
value, and one that a cue has just preset (log entry 1) do not reach 0. -/
def runAutoFollowExpiry (s : State) : State :=
  whileRunning (fun s =>
    if runsOut s.showCtl.autoFollow = true ∧ s.showCtl.hold = false ∧ s.showCtl.autoCounted = false then
      conclude s (silentGo (s.setShow { s.showCtl with autoFollow := none, autoCounted := true }))
    else s) s

/-- AUTO_FOLLOW_EXPIRY. -/
def execAutoFollowExpiry (s : State) : Host.Outcome State Fault Refusal := .next (runAutoFollowExpiry s)

/-! SHOW-CLEAR (R168) -/

/-- SHOW_CLEAR_SHOW_STOP (R168): refused under the theatre alarm. DEDUCED (log entry 44): a clear that falls together with a rising
edge of a STOP line, and is taken after it, is refused in the same way, and the latch stays set. -/
def runShowClearShowStop (h : ReqHdr) (s : State) : State :=
  takeRequest h 1 .operator (fun s =>
    if theatreAlarm s || s.showCtl.stopRose then refuse .refusedState s else done (conclude s (clearShowStop s))) s

/-- SHOW_CLEAR_SHOW_STOP. -/
def execShowClearShowStop (h : ReqHdr) (s : State) : Host.Outcome State Fault Refusal := .next (runShowClearShowStop h s)

/-- R168: the cue-mark latch is cleared. -/
def clearCueLatch (s : State) : State := s.setShow { s.showCtl with cueLatch := false }

/-- SHOW_CLEAR_CUE_MARK (R168). -/
def runShowClearCueMark (h : ReqHdr) (s : State) : State :=
  takeRequest h 1 .operator (fun s => done (updateLines s (clearCueLatch s))) s

/-- SHOW_CLEAR_CUE_MARK. -/
def execShowClearCueMark (h : ReqHdr) (s : State) : Host.Outcome State Fault Refusal := .next (runShowClearCueMark h s)

/-- R168, R170: a LATCH line whose latched flag is set falls and clears the flag; one whose source has risen in the same frame period
stays HIGH (log entry 43). -/
def Line.clearLatch (l : Line) : Line :=
  if l.width = .latch ∧ l.latched = true ∧ l.rose = false then { l with level := false, latched := false } else l

/-- SHOW_CLEAR_LINES (R168). -/
def runShowClearLines (h : ReqHdr) (s : State) : State :=
  takeRequest h 1 .operator (fun s =>
    done (s.setShow { s.showCtl with lines := s.showCtl.lines.map Line.clearLatch })) s

/-- SHOW_CLEAR_LINES. -/
def execShowClearLines (h : ReqHdr) (s : State) : Host.Outcome State Fault Refusal := .next (runShowClearLines h s)

/-! Gate lines and stretch timers -/

/-- R167, R168: a rising edge of a STOP line sets the show-stop latch, and is remembered through its frame period. -/
def stopEdge (s : State) : State :=
  let s1 := setShowStop s
  s1.setShow { s1.showCtl with stopRose := true }

/-- R166, R167: what a rising edge of a gate line does. -/
def gateEdge (mode : GateMode) (s : State) : State :=
  match mode with
  | .go => silentGo s
  | .stop => stopEdge s
  | _ => s

/-- R165, R166: the debounced level of a gate line takes its input's level. -/
def takeGate (n : Nat) (high : Bool) (s : State) : State :=
  let s1 := judgeHold (s.modGate n (fun g => { g with input := high, level := high, count := 0 }))
  conclude s (if high then gateEdge (s.gate n).mode s1 else s1)

/-- GATE_DEBOUNCE_COMPLETE (R165): the gate input stands at a level. One that differs from the debounced level in the frame period that
brings the debounce count to its length is taken; any other is the input that the tick samples and counts (log entry 1). -/
def runGateDebounceComplete (n : Nat) (high : Bool) (s : State) : State :=
  whileRunning (fun s =>
    if high ≠ (s.gate n).level ∧ debounced ((s.gate n).setting * Config.perMs) (s.gate n).count then takeGate n high s
    else s.modGate n (fun g => { g with input := high })) s

/-- GATE_DEBOUNCE_COMPLETE. -/
def execGateDebounceComplete (n : Fin 4) (high : Bool) (s : State) : Host.Outcome State Fault Refusal :=
  .next (runGateDebounceComplete n.val high s)

/-- R170: the stretch timer of a line runs out; the line falls if its source is false. -/
def stretchOut (sourceIsTrue : Bool) (l : Line) : Line :=
  if l.timer = 0 then l else { l with timer := 0, level := if sourceIsTrue then l.level else false }

/-- STRETCH_TIMER_EXPIRY (R170); a timer at 0 is stopped, and one that a rise has preset is not at its end (log entry 1). -/
def runStretchTimerExpiry (n : Nat) (s : State) : State :=
  whileRunning (fun s => if (s.line n).timer ≤ 1 then s.modLine n (stretchOut (sourceTrue s (s.line n).source)) else s) s

/-- STRETCH_TIMER_EXPIRY. -/
def execStretchTimerExpiry (n : Fin 4) (s : State) : Host.Outcome State Fault Refusal := .next (runStretchTimerExpiry n.val s)

end Sys2Proof.Machine
end

