-- ==== Sys2Proof/Machine/Reading.lean ====
section
/-! DEFINITION. READ (R35): the public fields of every record of Table 2-5 in the order the owning chapters list them, laid out by
R39 and divided into segments. Each field is its bytes; each member of a list is one field. -/

namespace Sys2Proof.Machine

/-! The parts of a reply -/

/-- R35: fields are packed into segments of at most 22 bytes, as many whole fields as fit. -/
def pack : List (List Byte) → List Byte → List (List Byte)
  | [], cur => [cur]
  | f :: rest, cur => if cur.length + f.length ≤ 22 then pack rest (cur ++ f) else cur :: pack rest f

/-- R35: the segments of a record. -/
def segments (fields : List (List Byte)) : List (List Byte) := pack fields []

/-- A number in one byte. -/
def b1 (n : Nat) : List Byte := beBytes 1 n
/-- A number in two bytes. -/
def b2 (n : Nat) : List Byte := beBytes 2 n

/-- R39: a source of a mapped entry in three bytes; an absent backup has form byte 2. DESIGN CHOICE (log entry 45): the second and the
third byte of an absent backup are 0. -/
def sourceBytes : Option Source → List Byte
  | some (.slot p k) => [byteOf 0, byteOf p, byteOf k]
  | some (.localIn i) => [byteOf 1, byteOf i, byteOf 0]
  | none => [byteOf 2, byteOf 0, byteOf 0]

/-- R39: a destination in three bytes. -/
def destBytes : Dest → List Byte
  | .slot p k => [byteOf 0, byteOf p, byteOf k]
  | .localOut j => [byteOf 1, byteOf j, byteOf 0]

/-! Enumerated values, numbered in the order their rules list them (R39) -/

/-- R2. -/
def PortState.num : PortState → Nat
  | .down => 0
  | .seeking => 1
  | .up => 2

/-- R9. -/
def StreamState.num : StreamState → Nat
  | .unmapped => 0
  | .primary => 1
  | .backup => 2
  | .absent => 3

/-- R41. -/
def Role.num : Role → Nat
  | .unused => 0
  | .zone => 1
  | .talk => 2

/-- Table 3-2. -/
def ChangeMode.num : ChangeMode → Nat
  | .ramp => 0
  | .zeroCross => 1
  | .cut => 2

/-- Table 4-1. -/
def ZoneKind.num : ZoneKind → Nat
  | .cabin => 0
  | .publicRoom => 1
  | .crew => 2
  | .theatre => 3

/-- Table 4-1. -/
def LayerMode.num : LayerMode → Nat
  | .normal => 0
  | .voice => 1
  | .alarm => 2
  | .alarmVoice => 3

/-- R83 lists none as the first of its four grants, so R39 numbers it 0. DEDUCED (log entry 15). -/
def Grant.num : Grant → Nat
  | .out => 0
  | .waiting => 1
  | .head => 2
  | .audible => 3

/-- Table 6-1. -/
def StepPhase.num : StepPhase → Nat
  | .on => 0
  | .off => 1
  | .ended => 2

/-- Table 6-1 (log entry 20): FREE, then the signals, then the claim identifiers. -/
def Holder.num : Holder → Nat
  | .free => 0
  | .signal k => kindNum (some k)
  | .claim c => 4 + c

/-- R162. -/
def Engine.num : Engine → Nat
  | .idle => 0
  | .fading => 1
  | .settled => 2

/-- R166. -/
def GateMode.num : GateMode → Nat
  | .off => 0
  | .go => 1
  | .hold => 2
  | .stop => 3

/-- R183. -/
def AmpState.num : AmpState → Nat
  | .on => 0
  | .quiet => 1
  | .standby => 2
  | .off => 3
  | .waking => 4
  | .fault => 5

/-- Table 11-2. -/
def FaultReason.num : FaultReason → Nat
  | .ampFault => 0
  | .noReady => 1

/-- The position of a value in a list of choices. -/
def choiceNum {α : Type} [BEq α] (choices : List α) (x : α) : Nat := choices.findIdx (fun y => y == x)

/-! The records -/

/-- Table 2-5: the node record. -/
def readNode (s : State) : List (List Byte) :=
  [b1 s.node.id, optBytes 1 s.node.report, b1 s.node.auth.length, optBytes 1 (activeTrunk s)]

/-- R30: an authority entry; an empty position has identity none. -/
def readAuth (s : State) (n : Nat) : List (List Byte) :=
  match s.node.auth[n]? with
  | some e => [b1 e.id, b1 (e.config.toNat + 2 * e.bridge.toNat + 4 * e.operator.toNat)]
  | none => [optBytes 1 none, b1 0]

/-- Table 1-4: a port record (log entry 16 for the neighbour and the alarm word). -/
def readPort (s : State) (p : Nat) : List (List Byte) :=
  let q := s.port p
  [b1 q.state.num, b1 q.good, b1 q.lt, optBytes 2 q.neighbour,
   (match q.rxAlarm with
    | some w => b2 w.mask.toNat ++ b1 (kindNum w.kind)
    | none => optBytes 3 none),
   b2 q.crcErrors, b2 q.drops, b1 q.egress.length]

/-- R14: a stream entry. DESIGN CHOICE (log entry 23): an UNMAPPED entry's two sources, which are none, are zero bytes (R35), as its
sample is. -/
def readStream (s : State) (n : Nat) : List (List Byte) :=
  let e := s.stream n
  if e.state = .unmapped then [b1 0, beBytes 3 0, beBytes 3 0, beBytes 3 0]
  else [b1 e.state.num, sourceBytes e.primary, sourceBytes (e.backup.map (fun b => .slot b.1 b.2)), sampleBytes e.sample]

/-- R41, R35: a bus record; one of role UNUSED is returned with its role and its remaining fields as zero. -/
def readBus (s : State) (b : Nat) : List (List Byte) :=
  let r := s.bus b
  if r.role = .unused then [b1 0, b1 0, b2 0, b2 0, b1 0, b2 0, beBytes 3 0]
  else [b1 r.role.num, optBytes 1 r.zone, b2 r.line.length, b2 (delayBase s b), b1 r.dests.length] ++
    r.dests.map destBytes ++ [b2 r.clips, sampleBytes r.output]

/-- R50: a live crosspoint entry without its previous sample. -/
def xpointBytes (x : XPoint) : List Byte :=
  b1 x.stream ++ b2 x.cur ++ b2 x.target ++ b1 x.mode.num ++ optBytes 2 x.step ++ optBytes 2 x.pending ++ b2 x.wait ++
    flagByte x.retiring

/-- R50: the live crosspoint entries of a bus; none where its role is not ZONE. -/
def readXPoint (s : State) (b : Nat) : List (List Byte) :=
  let l := if (s.bus b).role = .zone then (s.bus b).live else []
  b1 l.length :: l.map xpointBytes

/-- R78: the heard claim, and 0 for chiming or 1 for audible (log entry 21: 0 where none is heard). -/
def heardBytes (s : State) (z : Nat) : List (List Byte) :=
  match heardOf s z with
  | none => [optBytes 1 none, b1 0]
  | some (.chiming c _) => [b1 c, b1 0]
  | some (.audible c _) => [b1 c, b1 1]

/-- R78: a zone record. DEDUCED (log entry 18): item 13 is the current and the target of k_p, then those of k_v, then those of k_a. -/
def readZone (s : State) (z : Nat) : List (List Byte) :=
  match s.zone z with
  | none =>
    [b1 0, b1 0, b1 0, b1 0, b2 0, b1 0, b2 0, b2 0, b1 0, b1 0, b1 0, b2 0, b1 0, b1 0, b1 0, b1 0, b1 0, b2 0,
     b2 0, b2 0, b2 0, b2 0, b2 0, b2 0]
  | some zn =>
    [b1 1, b1 zn.kind.num, b1 zn.fireZone, b1 zn.buses.length] ++ zn.buses.map b1 ++
    [b2 zn.duck, b1 zn.threshold, b2 zn.override, b2 zn.layerStep, optBytes 1 zn.sensor, optBytes 1 zn.amp,
     b1 zn.cabinLevel, b2 (cabinCoef zn), b1 zn.mode.num, flagByte zn.held, b1 (kindNum zn.applied)] ++ heardBytes s z ++
    [b2 zn.compCur, b2 zn.kp, b2 zn.kpTarget, b2 zn.kv, b2 zn.kvTarget, b2 zn.ka, b2 zn.kaTarget]

/-- R104: a claim record; the state is FREE or one of Table 5-2. -/
def readClaim (s : State) (c : Nat) : List (List Byte) :=
  match s.claim c with
  | none =>
    [b1 0, b1 0, b1 0, b1 0, b1 0, b1 0, b1 0, b1 0, b1 0, b1 0, b2 0, beBytes 4 0, b2 0, b1 0, b1 0, b1 0, b1 0, b1 0]
  | some cl =>
    [b1 (cl.state.num + 1), b1 cl.origin, b1 cl.originPort, b1 cl.priority, b1 cl.source, b1 cl.rank, flagByte cl.all,
     flagByte cl.wait, flagByte cl.drop, optBytes 1 cl.chime, b2 cl.limit, optBytes 4 cl.timer, b2 cl.watch,
     flagByte cl.started, flagByte cl.chimeSkipped, optBytes 1 cl.voice, b1 (audibleCount cl), b1 cl.targets.length] ++
    cl.targets.map (fun t => b1 t.1 ++ b1 t.2.num)

/-- R119: a tone voice; a FREE voice has every other field zero. -/
def readVoice (s : State) (n : Nat) : List (List Byte) :=
  let v := s.voice n
  if v.holder = .free then [b1 0, b1 0, b1 0, b1 0, b1 0, beBytes 3 0, b1 0, beBytes 3 0, beBytes 3 0]
  else [b1 v.holder.num, optBytes 1 v.cadence, b1 v.step, b1 v.rep, b1 v.phase.num, beBytes 3 v.timer, b1 v.passes,
        beBytes 3 v.osc, sampleBytes v.sample]

/-- R119, R35: a cadence; an empty one is returned with 0 steps and its remaining fields as zero. -/
def readCadence (s : State) (n : Nat) : List (List Byte) :=
  let c := s.cadence n
  if c.steps = [] then [b1 0, b1 0, b1 0]
  else [flagByte (decide (n < 3)), b1 c.repeats, b1 c.steps.length] ++ c.steps.map (fun st =>
    b2 st.freq ++ b1 st.duty ++ b2 st.level ++ b2 st.onMs ++ b2 st.offMs ++ b1 st.count)

/-- The count of LOADED zones with a property. -/
def countZones (s : State) (p : Zone → Bool) : Nat := s.zones.countP (fun o => o.any p)

/-- R136: the alarm sources of a fire zone. -/
def readFire (s : State) (f : Nat) : List (List Byte) :=
  let z := s.fireZone f
  [b1 f, b1 (kindNum z.beacon), flagByte s.alarm.islandHold, b1 (kindNum z.cell), b1 (kindNum (contactKind s)),
   b1 (kindNum z.resolved), b1 (countZones s (fun zn => zn.fireZone == f && zn.applied.isSome)),
   flagByte s.alarm.contactClosed, flagByte s.alarm.contactLatch, flagByte s.alarm.fallback]

/-- R136: a signal record. -/
def readSignal (s : State) (k : AlarmKind) : List (List Byte) :=
  let r := s.signal k
  [b1 r.cadence, b2 r.level, b2 r.duck, b1 (kindMask r.kinds), optBytes 1 (signalVoice s k),
   flagByte (fallbackSignal s == some k), b1 (signalZones s k).length]

/-- R152: a member of a talk group. -/
def memberBytes (m : Member) : List Byte :=
  b1 m.station ++ b1 m.stream ++ b1 m.bus ++ b2 m.gain ++ flagByte m.prio ++ flagByte m.latching ++ b2 m.timeout ++
    b1 m.state.num ++ optBytes 4 m.timer

/-- R152, R35: a talk group; an empty one is returned with 0 members and its remaining fields as zero. -/
def readGroup (s : State) (n : Nat) : List (List Byte) :=
  let g := s.group n
  if g.members = [] then [b1 0, b1 0, b1 0]
  else [b1 g.limit, b1 g.members.length, b1 g.talkers.length] ++ g.talkers.map b1 ++ g.members.map memberBytes ++
    g.members.map (fun m => flagByte (decide (0 < s.calling m.stream)))

/-- R155: a scene, and the free places of the pool; one with neither scope nor entries is returned so as zeros (R35, log entry 23). -/
def readScene (s : State) (n : Nat) : List (List Byte) :=
  let sc := s.scene n
  b1 (membersOf sc.scope).length :: (membersOf sc.scope).map b1 ++ [b2 sc.entries.length] ++
    sc.entries.map (fun e => b1 e.bus ++ b1 e.stream ++ b2 e.coef ++ b1 e.mode.num) ++ [b2 (Config.scenePool - poolUsed s)]

/-- R157: a cue. -/
def readCue (s : State) (n : Nat) : List (List Byte) :=
  match s.cue n with
  | none => [b1 0, b1 0, b2 0, b2 0, b1 0]
  | some c => [b1 1, b1 c.scene, b2 c.crossfade, optBytes 2 c.autoFollow, optBytes 1 c.next]

/-- R169: the cue engine and the latches. -/
def readShow (s : State) : List (List Byte) :=
  let c := s.showCtl
  [b1 c.engine.num, optBytes 1 c.current, b1 (membersOf c.watched).length] ++ (membersOf c.watched).map b1 ++
    [optBytes 3 c.autoFollow, optBytes 1 c.cueMark, flagByte c.cueLatch, flagByte c.showStop, flagByte c.hold,
     flagByte (theatreAlarm s)]

/-- R171: a gate line, 0 to 3, or a status line, 4 to 7. R165 lists the levels of a gate line as LOW, HIGH, and R169 those of a status
line as HIGH, LOW, so R39 numbers them in these orders. DEDUCED (log entry 19). -/
def readLine (s : State) (n : Nat) : List (List Byte) :=
  if n < 4 then
    let g := s.gate n
    [b1 (choiceNum [0, 1, 5, 10, 50] g.setting), b1 g.mode.num, b1 (if g.level then 1 else 0), b2 g.count]
  else
    let l := s.line (n - 4)
    [b1 (choiceNum lineSources l.source), b1 (choiceNum lineWidths l.width), b1 (choiceNum stretchTimes l.stretch),
     b1 (if l.level then 0 else 1), b2 l.timer, flagByte l.latched]

/-- R174: a sensor record. -/
def readSensor (s : State) (n : Nat) : List (List Byte) :=
  match s.sensor n with
  | none => [b1 0, b1 0, b2 0, beBytes 3 0, beBytes 3 0, b1 0, b2 0, beBytes 3 0, b1 0]
  | some x =>
    [b1 (1 + x.suspect.toNat), b1 x.input, b2 (BitVec.ofInt 16 x.offset).toNat, beBytes 3 x.low, beBytes 3 x.high, b1 x.curve,
     b2 x.compStep, optBytes 3 x.last, b1 (countZones s (fun zn => zn.sensor == some n))]

/-- R176: a curve. -/
def readCurve (s : State) (n : Nat) : List (List Byte) :=
  b1 (s.curve n).length :: (s.curve n).map (fun p => beBytes 3 p.1 ++ b2 p.2)

/-- R177: the scan state. DESIGN CHOICE (log entry 24): while IDLE it shows the mode and range last held, and 0 for the sensor and the
elapsed frame periods. -/
def readScan (s : State) : List (List Byte) :=
  let c := s.ambient.scan
  [flagByte c.window.isSome, flagByte c.continuous, b1 c.first, b1 c.last, b1 (if c.window.isSome then c.sensor else 0),
   b2 ((c.window.map (·.elapsed)).getD 0)]

/-- R183: an amp group. DESIGN CHOICE (log entry 39): demand, the demoted indication and the input levels are sent as flags, set for
present, demoted and high. -/
def readAmp (s : State) (g : Nat) : List (List Byte) :=
  let a := s.amp g
  [b1 a.state.num, optBytes 1 (a.reason.map FaultReason.num), flagByte (!a.auto), b2 a.quietAfter, b2 a.standbyAfter,
   b2 a.offAfter, b2 a.wakeStandby, b2 a.wakeOff, optBytes 4 a.residency, optBytes 3 a.wakeTimer, b1 a.early, b1 a.threshold,
   b2 a.window, optBytes 4 a.windowTimer, flagByte a.earlyFlag, flagByte a.demand, flagByte (demoted a), flagByte a.readyIn,
   flagByte a.faultIn, b1 (countZones s (fun zn => zn.amp == some g))]

/-- A record whose index must not be above a limit. -/
def upTo (limit n : Nat) (r : List (List Byte)) : Option (List (List Byte)) := if limit < n then none else some r

/-- Table 2-5: the fields of record n of a table; none where the table or the index does not exist. -/
def readRecord (s : State) (table n : Nat) : Option (List (List Byte)) :=
  match table with
  | 0 => upTo 0 n (readNode s)
  | 1 => upTo 15 n (readAuth s n)
  | 2 => upTo 254 n [optBytes 1 (s.node.routes.getD n none)]
  | 3 => upTo 5 n (readPort s n)
  | 4 => upTo 127 n (readStream s n)
  | 5 => upTo 63 n (readBus s n)
  | 6 => upTo 63 n (readXPoint s n)
  | 7 => upTo 95 n (readZone s n)
  | 8 => upTo 47 n (readClaim s n)
  | 9 => upTo 7 n (readVoice s n)
  | 10 => upTo 31 n (readCadence s n)
  | 11 => if n = 0 then none else upTo 16 n (readFire s n)
  | 12 => match signalOfIndex n with
    | some k => some (readSignal s k)
    | none => none
  | 13 => upTo 7 n (readGroup s n)
  | 14 => upTo 15 n (readScene s n)
  | 15 => upTo 63 n (readCue s n)
  | 16 => upTo 0 n (readShow s)
  | 17 => upTo 7 n (readLine s n)
  | 18 => upTo 7 n (readSensor s n)
  | 19 => upTo 7 n (readCurve s n)
  | 20 => upTo 0 n (readScan s)
  | 21 => upTo 15 n (readAmp s n)
  | _ => none
where
  /-- Table 2-5: 0 CREW_ALERT, 1 FIRE, 2 GENERAL. -/
  signalOfIndex : Nat → Option AlarmKind
    | 0 => some .crewAlert
    | 1 => some .fire
    | 2 => some .general
    | _ => none

/-- R35, R39: the reply data of READ; none where it is refused. -/
def readReply (s : State) (table n segment : Nat) : Option (List Byte) :=
  match readRecord s table n with
  | none => none
  | some fields =>
    ((segments fields)[segment]?).map (fun portion =>
      b1 table ++ b1 n ++ b1 segment ++ flagByte (decide (segment + 1 < (segments fields).length)) ++ portion)

/-- READ (R35): no state changes but the reply's queue. -/
def runRead (h : ReqHdr) (table n segment : Nat) (s : State) : State :=
  takeRequest h 3 .config (fun s =>
    match readReply s table n segment with
    | some data => { code := .done, data := data, state := s }
    | none => refuse .refusedRange s) s

/-- READ. -/
def execRead (h : ReqHdr) (table n segment : Nat) (s : State) : Host.Outcome State Fault Refusal :=
  .next (runRead h table n segment s)

end Sys2Proof.Machine
end

