-- ==== Sys2Proof/Machine/Intercom.lean ====
section
/-! DEFINITION. The commands of chapter 8: LOAD_GROUP, TALK_KEY_ON, TALK_KEY_OFF, TALK_TIMER_EXPIRY. -/

namespace Sys2Proof.Machine

/-- R141: a member as it is stored, its gain and timeout clamped. -/
def RawMember.toMember (r : RawMember) : Member :=
  { station := r.station, stream := r.stream, bus := r.bus, gain := min 32767 r.gain, prio := r.prio, latching := r.latching,
    timeout := min 600 r.timeout, state := .idle, timer := none }

/-- R142, R154: a member that speaks or is suspended becomes IDLE with its timer stopped. -/
def Member.drop (m : Member) : Member := if m.state = .idle then m else { m with state := .idle, timer := none }

/-- R142, R154: every talker of a group is released. -/
def Group.dropAll (g : Group) : Group := { g with members := g.members.map Member.drop, talkers := [] }

/-- R142, R154: the DROPPED notices of releasing group g, in rising order of member index. -/
def dropNotes (n : Nat) (g : Group) : List Note :=
  (g.members.zipIdx.filter (fun m => m.1.state != .idle)).map (fun m =>
    { group := n, index := m.2, station := m.1.station, what := .dropped })

/-- R141 check 5: a bus is the output bus of a member other than those of group g that the first flag removes. -/
def busTaken (s : State) (g : Nat) (first : Bool) (b : Nat) : Bool :=
  (allMembers s).any (fun t => t.2.2.bus == b && !(first && t.1 == g))

/-- R142: a LOAD-GROUP takes effect. -/
def installGroup (n : Nat) (first : Bool) (limit : Nat) (members : List RawMember) (s : State) : State :=
  let old := s.group n
  sendNotes (dropNotes n old) (s.modGroup n (fun g =>
    { limit := limit, talkers := [],
      members := (if first then [] else g.dropAll.members) ++ members.map RawMember.toMember }))

/-- R141: what the intercom unit makes of a LOAD-GROUP. -/
def loadGroup (n : Nat) (first : Bool) (limit : Nat) (members : List RawMember) (s : State) : Answer :=
  let kept := if first then [] else (s.group n).members
  let stations := members.map (·.station)
  let buses := members.map (·.bus)
  if 7 < n ∨ limit = 0 ∨ 4 < limit ∨ 2 < members.length ∨
      members.any (fun m => decide (254 < m.station) || decide (127 < m.stream) || decide (63 < m.bus)) = true then
    refuse .refusedRange s
  else if Config.groupMembers < kept.length + members.length then refuse .refusedFull s
  else if ¬ stations.Nodup ∨ stations.any (fun i => kept.any (fun m => m.station == i)) = true then refuse .refusedBusy s
  else if buses.any (fun b => (s.bus b).role != .talk) then refuse .refusedState s
  else if ¬ buses.Nodup ∨ buses.any (busTaken s n first) = true then refuse .refusedBusy s
  else done (installGroup n first limit members s)

/-- LOAD_GROUP (R141, R142). -/
def runLoadGroup (h : ReqHdr) (n : Nat) (first : Bool) (limit : Nat) (members : List RawMember) (s : State) : State :=
  takeRequest h (4 + 9 * members.length) .config (loadGroup n first limit members) s

/-- LOAD_GROUP. -/
def execLoadGroup (h : ReqHdr) (n : Nat) (first : Bool) (limit : Nat) (members : List RawMember) (s : State) :
    Host.Outcome State Fault Refusal :=
  .next (runLoadGroup h n first limit members s)

/-! Keying -/

/-- R146: a TALK-KEY ON from a TALKING member presets its talk timer again, when it runs. -/
def Member.rekey (m : Member) : Member := if m.timer.isSome then { m with timer := talkPreset m } else m

/-- R144: the talker a priority member displaces: the last talker of the set whose priority flag is clear. -/
def displaceable (g : Group) : Option (Nat × Member) :=
  (g.talkers.reverse.findSome? (fun j => (g.members[j]?).bind (fun m => if m.prio then none else some (j, m))))

/-- R143, R144: a TALK-KEY ON of an IDLE member. -/
def keyIdle (n i : Nat) (m : Member) (s : State) : Answer :=
  let g := s.group n
  let note : TalkNote → Note := fun w => { group := n, index := i, station := m.station, what := w }
  if 0 < s.calling m.stream then refuse .refusedState s
  else if g.talkers.length < g.limit then done (sendNotes [note .admitted] (s.modGroup n (Group.letTalk i)))
  else match (if m.prio then displaceable g else none) with
    | some (j, d) =>
      done (sendNotes [{ group := n, index := j, station := d.station, what := .dropped }, note .admitted]
        (s.modGroup n (fun g => Group.letTalk i (Group.release j g))))
    | none => { code := .refusedBusy, data := [], state := sendNotes [note .denied] s }

/-- R143: what the intercom unit makes of a TALK-KEY ON. -/
def talkKeyOn (h : ReqHdr) (n : Nat) (s : State) : Answer :=
  if 7 < n then refuse .refusedRange s
  else match findMember (s.group n) h.src with
    | none => refuse .refusedRange s
    | some (i, m) =>
      match m.state with
      | .idle => keyIdle n i m s
      | .talking => done (s.modGroup n (Group.modMember i Member.rekey))
      | .suspended => refuse .refusedState s

/-- TALK_KEY_ON (R143). -/
def runTalkKeyOn (h : ReqHdr) (n : Nat) (s : State) : State := takeRequest h 2 .operator (talkKeyOn h n) s

/-- TALK_KEY_ON. -/
def execTalkKeyOn (h : ReqHdr) (n : Nat) (s : State) : Host.Outcome State Fault Refusal := .next (runTalkKeyOn h n s)

/-- R145: what the intercom unit makes of a TALK-KEY OFF. -/
def talkKeyOff (h : ReqHdr) (n : Nat) (s : State) : Answer :=
  if 7 < n then refuse .refusedRange s
  else match findMember (s.group n) h.src with
    | none => refuse .refusedRange s
    | some (i, m) =>
      if m.state = .idle then done s
      else done (sendNotes [{ group := n, index := i, station := m.station, what := .released }]
        (s.modGroup n (Group.release i)))

/-- TALK_KEY_OFF (R145). -/
def runTalkKeyOff (h : ReqHdr) (n : Nat) (s : State) : State := takeRequest h 2 .operator (talkKeyOff h n) s

/-- TALK_KEY_OFF. -/
def execTalkKeyOff (h : ReqHdr) (n : Nat) (s : State) : Host.Outcome State Fault Refusal := .next (runTalkKeyOff h n s)

/-- R146: the talk timer of member i of group n reaches 0. -/
def dropTalker (n i : Nat) (m : Member) (s : State) : State :=
  sendNotes [{ group := n, index := i, station := m.station, what := .dropped }] (s.modGroup n (Group.release i))

/-- TALK_TIMER_EXPIRY (R146); a member whose timer is stopped, or preset again by its key (log entry 1), has no expiry. -/
def runTalkTimerExpiry (n i : Nat) (s : State) : State :=
  whileRunning (fun s =>
    match (s.group n).members[i]? with
    | some m => if runsOut m.timer then dropTalker n i m s else s
    | none => s) s

/-- TALK_TIMER_EXPIRY. -/
def execTalkTimerExpiry (n : Fin 8) (i : Fin 10) (s : State) : Host.Outcome State Fault Refusal :=
  .next (runTalkTimerExpiry n.val i.val s)

end Sys2Proof.Machine
end

