-- ==== Sys2Proof/Machine/Meter.lean ====
section
/-! DEFINITION. The commands of chapter 10: the loads of sensors and curves, SCAN, and the completion of a measuring window. -/

namespace Sys2Proof.Machine

/-- R174: the largest level. -/
def levelMax : Nat := 8421375

/-- R178, R179: a window of sensor n begins: its input and offset, and its zone set with each zone's mark. DESIGN CHOICE (log entry 41):
the window of an UNUSED sensor, which holds neither and takes no result, is given input 0 and offset 0. The window is marked through the
frame period in which it begins, whose sample is not of it (log entry 47). -/
def beginWindow (s : State) (n : Nat) : Window :=
  { fresh := true, elapsed := 0, sum := 0, input := ((s.sensor n).map (·.input)).getD 0, offset := ((s.sensor n).map (·.offset)).getD 0,
    zones := ((List.range Config.zones).filter (fun z => (s.zone z).any (fun zn => zn.sensor == some n))).map
      (fun z => (z, contaminating s z)) }

/-- Change the scan state. -/
def modScan (f : Scan → Scan) (s : State) : State := s.setAmbient { s.ambient with scan := f s.ambient.scan }

/-- R177: a window of sensor n begins. -/
def startWindow (n : Nat) (s : State) : State :=
  modScan (fun c => { c with sensor := n, window := some (beginWindow s n) }) s

/-- R175: the window in progress of sensor n is discarded and begun anew. -/
def restartWindow (n : Nat) (s : State) : State :=
  if s.ambient.scan.window.isSome ∧ s.ambient.scan.sensor = n then startWindow n s else s

/-- Replace a sensor record. -/
def setSensor (n : Nat) (x : Option Sensor) (s : State) : State :=
  s.setAmbient { s.ambient with sensors := s.ambient.sensors.set n x }

/-- R175: a sensor record after a LOAD; its state and last level are kept, GOOD and none where it was UNUSED. -/
def loadedSensor (old : Option Sensor) (input : Nat) (offset : Int) (low high curve : Nat) (step : Option Nat) : Sensor :=
  { suspect := (old.map (·.suspect)).getD false, input := input, offset := clampInt (-32768) 32767 offset,
    low := min levelMax low, high := min levelMax high, curve := curve, compStep := clamp 1 32767 (step.getD 256),
    last := old.bind (·.last) }

/-- LOAD_SENSOR_LOAD (R175). -/
def runLoadSensorLoad (h : ReqHdr) (n input : Nat) (offset : Int) (low high curve : Nat) (step : Option Nat) (s : State) : State :=
  takeRequest h 14 .config (fun s =>
    if 7 < n ∨ 7 < input ∨ 7 < curve then refuse .refusedRange s
    else done (restartWindow n (setSensor n (some (loadedSensor (s.sensor n) input offset low high curve step)) s))) s

/-- LOAD_SENSOR_LOAD. -/
def execLoadSensorLoad (h : ReqHdr) (n input : Nat) (offset : Int) (low high curve : Nat) (step : Option Nat) (s : State) :
    Host.Outcome State Fault Refusal :=
  .next (runLoadSensorLoad h n input offset low high curve step s)

/-- LOAD_SENSOR_UNLOAD (R175). -/
def runLoadSensorUnload (h : ReqHdr) (n : Nat) (s : State) : State :=
  takeRequest h 2 .config (fun s =>
    if 7 < n then refuse .refusedRange s else done (restartWindow n (setSensor n none s))) s

/-- LOAD_SENSOR_UNLOAD. -/
def execLoadSensorUnload (h : ReqHdr) (n : Nat) (s : State) : Host.Outcome State Fault Refusal :=
  .next (runLoadSensorUnload h n s)

/-! Curves (R176) -/

/-- R176: a breakpoint as it is stored. -/
def clampPoint (p : Nat × Nat) : Nat × Nat := (min levelMax p.1, clamp 16384 32767 p.2)

/-- R176: the thresholds rise strictly. -/
def rising : List Nat → Bool
  | a :: b :: rest => decide (a < b) && rising (b :: rest)
  | _ => true

/-- R176: what the ambient meter makes of a LOAD-CURVE. -/
def loadCurve (n : Nat) (first : Bool) (points : List (Nat × Nat)) (s : State) : Answer :=
  let all := (if first then [] else s.curve n) ++ points.map clampPoint
  if 7 < n ∨ 4 < points.length ∨ rising (all.map Prod.fst) = false then refuse .refusedRange s
  else if Config.breakpoints < all.length then refuse .refusedFull s
  else done (s.setAmbient { s.ambient with curves := s.ambient.curves.set n all })

/-- LOAD_CURVE (R176). -/
def runLoadCurve (h : ReqHdr) (n : Nat) (first : Bool) (points : List (Nat × Nat)) (s : State) : State :=
  takeRequest h (3 + 5 * points.length) .config (loadCurve n first points) s

/-- LOAD_CURVE. -/
def execLoadCurve (h : ReqHdr) (n : Nat) (first : Bool) (points : List (Nat × Nat)) (s : State) :
    Host.Outcome State Fault Refusal :=
  .next (runLoadCurve h n first points s)

/-- R176: the value a curve gives for a level: that of the last breakpoint whose threshold is at or below it. -/
def curveValue (c : List (Nat × Nat)) (level : Nat) : Nat :=
  (((c.filter (fun p => decide (p.1 ≤ level))).getLast?).map Prod.snd).getD 16384

/-! SCAN (R177) -/

/-- SCAN_START (R177). -/
def runScanStart (h : ReqHdr) (first last mode : Nat) (s : State) : State :=
  takeRequest h 4 .operator (fun s =>
    if 7 < first ∨ 7 < last ∨ last < first ∨ 1 < mode then refuse .refusedRange s
    else done (startWindow first (modScan (fun c => { c with continuous := mode == 1, first := first, last := last }) s))) s

/-- SCAN_START. -/
def execScanStart (h : ReqHdr) (first last mode : Nat) (s : State) : Host.Outcome State Fault Refusal :=
  .next (runScanStart h first last mode s)

/-- R177: the window in progress is discarded and the scan becomes IDLE. DESIGN CHOICE (log entry 24): the IDLE scan keeps its mode and
range. -/
def stopScan (s : State) : State := modScan (fun c => { c with window := none }) s

/-- SCAN_STOP (R177). -/
def runScanStop (h : ReqHdr) (s : State) : State := takeRequest h 1 .operator (fun s => done (stopScan s)) s

/-- SCAN_STOP. -/
def execScanStop (h : ReqHdr) (s : State) : Host.Outcome State Fault Refusal := .next (runScanStop h s)

/-! The completion of a window (R177 to R180) -/

/-- R180: the result of a clean zone: its target from the curve, its current a step nearer. -/
def Zone.compensate (target step : Nat) (zn : Zone) : Zone :=
  { zn with compTarget := target, compCur := moveToward zn.compCur target step }

/-- R180: the zones of the window's set take their results, in rising order of zone number. -/
def compensateZones (marks : List (Nat × Bool)) (target step : Nat) (s : State) : State :=
  forEach marks (fun t s => if t.2 then s else s.modZone t.1 (Zone.compensate target step)) s

/-- R180: a GOOD or SUSPECT sensor takes the result of a window by its level. -/
def takeResult (n level : Nat) (w : Window) (x : Sensor) (s : State) : State :=
  if level < x.low ∨ x.high < level then
    let s1 := setSensor n (some { x with last := some level, suspect := true }) s
    if x.suspect then s1 else sensorNotice n true s1
  else
    let s1 := setSensor n (some { x with last := some level, suspect := false }) s
    let s2 := if x.suspect then sensorNotice n false s1 else s1
    refreshZones (compensateZones w.zones (curveValue (s.curve x.curve) level) x.compStep s2)

/-- R177: the scan moves on after a window. -/
def moveScan (s : State) : State :=
  let c := s.ambient.scan
  if c.sensor < c.last then startWindow (c.sensor + 1) s
  else if c.continuous then startWindow c.first s
  else stopScan s

/-- R178 to R180: the window in progress completes. -/
def completeWindow (w : Window) (s : State) : State :=
  let n := s.ambient.scan.sensor
  moveScan (match s.sensor n with
    | none => s
    | some x => takeResult n (w.sum / Config.windowLength) w x s)

/-- SCAN_WINDOW_COMPLETE (R178); while the scan is IDLE there is no window, and one that has not taken its 4,800 samples is not
complete (log entry 1). -/
def runScanWindowComplete (s : State) : State :=
  whileRunning (fun s =>
    match s.ambient.scan.window with
    | none => s
    | some w => if Config.windowLength ≤ w.elapsed then completeWindow w s else s) s

/-- SCAN_WINDOW_COMPLETE. -/
def execScanWindowComplete (s : State) : Host.Outcome State Fault Refusal := .next (runScanWindowComplete s)

end Sys2Proof.Machine
end

