-- ==== Sys2Proof/Machine/Resets.lean ====
section
/-! DEFINITION. The resets: HARDWARE_RESET and RESET_INPUT_LOW (R20), RESET_NODE_ALL and RESET_NODE_JOBS (R37). -/

namespace Sys2Proof.Machine

/-- Every block at its reset values (R7, R15, R38, R61, R79, R105, R120, R137, R153, R172, R181, R192), given the node identity, the
fallback flag and what becomes of each amp group; the pins and the waiting commands are kept. -/
def resetBlocks (id : Nat) (fallback : Bool) (amp : Amp → Amp) (s : State) : State :=
  { ports := List.replicate Config.ports portReset, streams := List.replicate Config.streams streamReset,
    node := nodeReset id, buses := List.replicate Config.buses busReset, zones := List.replicate Config.zones none,
    claims := claimsReset, tone := toneReset, alarm := alarmReset fallback, talk := talkReset,
    showCtl := showReset (s.showCtl.gates.map (·.input)), ambient := ambientReset,
    power := { groups := s.power.groups.map amp, policy := policyReset }, pins := s.pins, pending := s.pending }

/-- R192: an amp group after a reset with its inputs at the levels they have. -/
def Amp.afterReset (a : Amp) : Amp := ampReset a.readyIn a.faultIn

/-- R20: an amp group while hardware reset is in force. -/
def Amp.inReset (a : Amp) : Amp := ampHeld a.readyIn a.faultIn

/-- R20: the node identity of a strap value; 255 is taken as 254. -/
def strapIdentity (straps : BitVec 8) : Nat := min 254 straps.toNat

/-- HARDWARE_RESET (R20): the reset input rises, the straps are sampled, and every block starts from its reset values. -/
def runHardwareReset (straps : BitVec 8) (s : State) : State :=
  let s1 := resetBlocks (strapIdentity straps) true Amp.afterReset s
  s1.setPins { s1.pins with resetLow := false, straps := straps }

/-- HARDWARE_RESET. -/
def execHardwareReset (straps : BitVec 8) (s : State) : Host.Outcome State Fault Refusal := .next (runHardwareReset straps s)

/-- RESET_INPUT_LOW (R20): hardware reset is in force and every block is held at its reset values. DESIGN CHOICE (log entry 6): the
node identity is kept until the straps are sampled, and the fallback flag is clear until the reset ends (R135). -/
def runResetInputLow (s : State) : State :=
  let s1 := resetBlocks s.node.id false Amp.inReset s
  s1.setPins { s1.pins with resetLow := true }

/-- RESET_INPUT_LOW. -/
def execResetInputLow (s : State) : Host.Outcome State Fault Refusal := .next (runResetInputLow s)

/-! RESET-NODE with scope ALL (R37) -/

/-- R37: every block takes its hardware-reset values, the node identity kept and the fallback feed not started. -/
def resetAll (s : State) : State := resetBlocks s.node.id false Amp.afterReset s

/-- R37: an accepted ALL; the copies of a broadcast are queued on the emptied queues. DESIGN CHOICE (log entry 26): on the ports that
R25 gives from the port states before the request. -/
def acceptResetAll (h : ReqHdr) (c : Cell) (s : State) : State :=
  if h.bcast then queueCopies (broadcastPorts s h.port.val) c (resetAll s) else resetAll s

/-- R22, R37: RESET-NODE with scope ALL, carried by a cell; an accepted one has no REPLY. -/
def takeResetAll (h : ReqHdr) (c : Cell) (s : State) : State :=
  if s.pins.resetLow then s
  else if !holdsClass s h.src .config then replyTo h .refusedAuthority [] s
  else acceptResetAll h c s

/-- R39: the cell of a broadcast RESET-NODE with scope ALL. -/
def resetAllCell (h : ReqHdr) : Cell := composeCell 255 h.src 8 h.tag 0 [byteOf 1]

/-- RESET_NODE_ALL (R37). -/
def runResetNodeAll (h : ReqHdr) (s : State) : State := takeResetAll h (resetAllCell h) s

/-- RESET_NODE_ALL. -/
def execResetNodeAll (h : ReqHdr) (s : State) : Host.Outcome State Fault Refusal := .next (runResetNodeAll h s)

/-! RESET-NODE with scope JOBS (R37) -/

/-- R154: every talker is released, with its DROPPED notice. -/
def releaseTalkers (s : State) : State :=
  sendNotes ((List.range Config.groups).flatMap (fun g => dropNotes g (s.group g)))
    (s.setTalk { s.talk with groups := s.talk.groups.map Group.dropAll })

/-- R62: the fades of every ZONE bus are completed. -/
def completeAll (s : State) : State :=
  s.setBuses (s.buses.map (fun b => if b.role = .zone then { b with live := completeFades b.live } else b))

/-- R173: the cue engine becomes IDLE with no watched scope, and the auto-follow timer stops. -/
def idleEngine (s : State) : State := s.setShow { s.showCtl with engine := .idle, watched := 0, autoFollow := none }

/-- R106: every claim ends with reason RESET, in rising order of identifier. -/
def endAllClaims (e : Ev) : Ev := forUpTo Config.claims (endClaim .reset) e

/-- R37: JOBS in every block. DESIGN CHOICE (log entry 35): the event does not itself write a status line, but a line whose source falls
or rises by it (THEATRE_VOICE, when the claims end) follows its source by R170. -/
def resetJobs (s : State) : State :=
  let s1 := stopScan (idleEngine (completeAll (releaseTalkers s)))
  close s (settle false (endAllClaims { st := s1, ended := [] }))

/-- RESET_NODE_JOBS (R37). -/
def runResetNodeJobs (h : ReqHdr) (s : State) : State := takeRequest h 1 .config (fun s => done (resetJobs s)) s

/-- RESET_NODE_JOBS. -/
def execResetNodeJobs (h : ReqHdr) (s : State) : Host.Outcome State Fault Refusal := .next (runResetNodeJobs h s)

end Sys2Proof.Machine
end

