-- ==== Sys2Proof/Machine/Tones.lean ====
section
/-! DEFINITION. The commands of chapter 6: TONE_VOICE_SAMPLE, STEP_TIMER_EXPIRY, LOAD_CADENCE. -/

namespace Sys2Proof.Machine

/-- R112, R113: the step timer of voice v reaches 0. A chime that finishes frees its voice and makes its claim LIVE. -/
def endPhase (v : Nat) (s : State) : State :=
  let old := s.voice v
  match phaseEnd (s.cadence (old.cadence.getD 0)) old with
  | .goes new => s.modVoice v (fun _ => new)
  | .finished new =>
    match old.holder with
    | .claim c => conclude s ((freeVoice v s).modClaim c goLive)
    | _ => s.modVoice v (fun _ => new)

/-- R112: a voice whose step timer a sample has brought to 0, and whose phase ends before its next sample. -/
def Voice.due (x : Voice) : Bool := x.holder != .free && x.phase != .ended && x.timer == 0

/-- STEP_TIMER_EXPIRY (R112); a FREE voice, one whose phase is ENDED, and one with frame periods left in its phase have no expiry. -/
def runStepTimerExpiry (v : Nat) (s : State) : State :=
  whileRunning (fun s => if (s.voice v).due then endPhase v s else s) s

/-- STEP_TIMER_EXPIRY. -/
def execStepTimerExpiry (v : Fin 8) (s : State) : Host.Outcome State Fault Refusal := .next (runStepTimerExpiry v.val s)

/-- R112: the phases that have ended, in rising order of voice number. -/
def endPhases (s : State) : State := forUpTo Config.voices runStepTimerExpiry s

/-- R110 to R112: every held voice produces its sample, and then its step timer falls by 1. -/
def sampleVoices (s : State) : State :=
  s.setTone { s.tone with voices := s.tone.voices.map (fun x => (voiceSample s.tone.cadences x).count) }

/-- TONE_VOICE_SAMPLE (R110 to R112). DESIGN CHOICE (log entry 2): a phase that the last sample brought to its end, and that nothing
has ended since, ends first, so that no phase gives more samples than it has frame periods. -/
def runToneVoiceSample (s : State) : State := whileRunning (fun s => sampleVoices (endPhases s)) s

/-- TONE_VOICE_SAMPLE. -/
def execToneVoiceSample (s : State) : Host.Outcome State Fault Refusal := .next (runToneVoiceSample s)

/-- R109: a step as it is stored, its values clamped. -/
def RawStep.toStep (r : RawStep) : CadStep :=
  { freq := min 20000 r.freq, duty := min 99 r.duty, level := min 16384 r.level, onMs := clamp 1 65535 r.onMs,
    offMs := min 65535 r.offMs, count := clamp 1 255 r.count }

/-- R109: whether a cadence is the cadence of a held voice. -/
def cadenceHeld (s : State) (n : Nat) : Bool := s.tone.voices.any (fun v => v.holder != .free && v.cadence == some n)

/-- R109: what the tone unit makes of a LOAD-CADENCE. -/
def loadCadence (n : Nat) (first : Bool) (repeats : Nat) (steps : List RawStep) (s : State) : Answer :=
  let kept := if first then [] else (s.cadence n).steps
  if n < 3 ∨ 31 < n ∨ 2 < steps.length then refuse .refusedRange s
  else if cadenceHeld s n then refuse .refusedBusy s
  else if Config.cadenceSteps < kept.length + steps.length then refuse .refusedFull s
  else
    let cad : Cadence := { repeats := min 255 repeats, steps := kept ++ steps.map RawStep.toStep }
    done (s.setTone { s.tone with cadences := s.tone.cadences.set n cad })

/-- LOAD_CADENCE (R109). -/
def runLoadCadence (h : ReqHdr) (n : Nat) (first : Bool) (repeats : Nat) (steps : List RawStep) (s : State) : State :=
  takeRequest h (4 + 10 * steps.length) .config (loadCadence n first repeats steps) s

/-- LOAD_CADENCE. -/
def execLoadCadence (h : ReqHdr) (n : Nat) (first : Bool) (repeats : Nat) (steps : List RawStep) (s : State) :
    Host.Outcome State Fault Refusal :=
  .next (runLoadCadence h n first repeats steps s)

end Sys2Proof.Machine
end

