-- ==== Sys2Proof/Machine/Zones.lean ====
section
/-! DEFINITION. The commands of chapter 4: LOAD_ZONE_LOAD, LOAD_ZONE_UNLOAD, CABIN_LEVEL. -/

namespace Sys2Proof.Machine

/-- R63, R39: the zone kind that a number stands for. -/
def zoneKindOf : Nat → Option ZoneKind
  | 0 => some .cabin
  | 1 => some .publicRoom
  | 2 => some .crew
  | 3 => some .theatre
  | _ => none

/-- The value fields of a LOAD-ZONE (R64), each none for DEFAULT. -/
structure ZoneFields where
  duck : Option Nat
  threshold : Option Nat
  override : Option Nat
  layerStep : Option Nat
  sensor : Option Nat
  amp : Option Nat

/-- R66: the record after an accepted LOAD, before the layer mode, the targets and the applied kind are determined. -/
def loadedZone (showStop : Bool) (old : Option Zone) (kind : ZoneKind) (fireZone : Nat) (buses : List Nat) (f : ZoneFields) : Zone :=
  let sameSensor := old.any (fun o => o.sensor == f.sensor)
  { kind := kind, fireZone := fireZone, buses := buses,
    duck := min 16384 (f.duck.getD 4096), threshold := min 8 (f.threshold.getD 5),
    override := min 32767 (f.override.getD 16384), layerStep := clamp 1 32767 (f.layerStep.getD 64),
    sensor := f.sensor, amp := f.amp,
    cabinLevel := match old with
      | some o => if o.kind = .cabin ∧ kind = .cabin then o.cabinLevel else 15
      | none => 15,
    mode := (old.map (·.mode)).getD .normal,
    held := kind == .theatre && showStop,
    kp := (old.map (·.kp)).getD 0, kv := (old.map (·.kv)).getD 0, ka := (old.map (·.ka)).getD 0,
    kpTarget := (old.map (·.kpTarget)).getD 0, kvTarget := (old.map (·.kvTarget)).getD 0,
    kaTarget := (old.map (·.kaTarget)).getD 0,
    applied := old.bind (·.applied),
    compCur := if sameSensor then (old.map (·.compCur)).getD 16384 else 16384,
    compTarget := if sameSensor then (old.map (·.compTarget)).getD 16384 else 16384 }

/-- R65: the zone fields of the bus records after zone z takes a list of buses. -/
def claimBuses (z : Nat) (buses : List Nat) (s : State) : State :=
  s.setBuses (s.buses.mapIdx (fun b bus =>
    if buses.contains b then { bus with zone := some z }
    else if bus.zone = some z then { bus with zone := none } else bus))

/-- R133: an accepted LOAD of a THEATRE zone under FIRE or GENERAL hands the show-stop trigger. -/
def loadTrigger (z : Nat) (s : State) : State :=
  if (s.zone z).any (fun zn => zn.kind == .theatre && (zn.applied == some .fire || zn.applied == some .general)) then
    setShowStop s else s

/-- R66: the currents of a zone that was UNLOADED stand at its new targets. -/
def Zone.standAtTargets (zn : Zone) : Zone := { zn with kp := zn.kpTarget, kv := zn.kvTarget, ka := zn.kaTarget }

/-- R66: zone z is LOADED with a record. -/
def installZone (z : Nat) (zn : Zone) (s : State) : State :=
  let old := s.zone z
  let s1 := claimBuses z zn.buses (s.setZones (s.zones.set z (some zn)))
  let s2 := if old.any (fun o => o.sensor == zn.sensor) then s1 else dropFromWindow z s1
  let s3 := close s (settle true { st := loadTrigger z (applyAll s2), ended := [] })
  if old.isNone then s3.modZone z Zone.standAtTargets else s3

/-- R64: what the zone controller makes of a LOAD. -/
def loadZone (zone kind fireZone : Nat) (buses : List Nat) (f : ZoneFields) (s : State) : Answer :=
  match zoneKindOf kind with
  | none => refuse .refusedRange s
  | some k =>
    if ¬ (zone ≤ 95 ∧ 1 ≤ fireZone ∧ fireZone ≤ 16 ∧ 1 ≤ buses.length ∧ buses.length ≤ 8 ∧
        buses.all (fun b => decide (b ≤ 63)) = true ∧ buses.Nodup ∧ f.sensor.all (fun n => decide (n ≤ 7)) = true ∧
        f.amp.all (fun g => decide (g ≤ 15)) = true) then refuse .refusedRange s
    else if s.claimList zone ≠ [] then refuse .refusedBusy s
    else if buses.any (fun b => (s.bus b).role != .zone) then refuse .refusedState s
    else if buses.any (fun b => (s.bus b).zone.any (fun z => z != zone)) then refuse .refusedBusy s
    else done (installZone zone (loadedZone s.showCtl.showStop (s.zone zone) k fireZone buses f) s)

/-- LOAD_ZONE_LOAD (R64 to R66). -/
def runLoadZoneLoad (h : ReqHdr) (zone kind fireZone : Nat) (buses : List Nat) (duck threshold override layerStep : Option Nat)
    (sensor amp : Option Nat) (s : State) : State :=
  takeRequest h (14 + buses.length) .config (loadZone zone kind fireZone buses
    { duck := duck, threshold := threshold, override := override, layerStep := layerStep, sensor := sensor, amp := amp }) s

/-- LOAD_ZONE_LOAD. -/
def execLoadZoneLoad (h : ReqHdr) (zone kind fireZone : Nat) (buses : List Nat) (duck threshold override layerStep : Option Nat)
    (sensor amp : Option Nat) (s : State) : Host.Outcome State Fault Refusal :=
  .next (runLoadZoneLoad h zone kind fireZone buses duck threshold override layerStep sensor amp s)

/-- R67: a LOADED zone is unloaded. -/
def removeZone (z : Nat) (s : State) : State :=
  if (s.zone z).isNone then s
  else concludeApplied s (dropFromWindow z (claimBuses z [] (s.setZones (s.zones.set z none))))

/-- LOAD_ZONE_UNLOAD (R64, R67). -/
def runLoadZoneUnload (h : ReqHdr) (zone : Nat) (s : State) : State :=
  takeRequest h 2 .config (fun s =>
    if 95 < zone then refuse .refusedRange s
    else if s.claimList zone ≠ [] then refuse .refusedBusy s
    else done (removeZone zone s)) s

/-- LOAD_ZONE_UNLOAD. -/
def execLoadZoneUnload (h : ReqHdr) (zone : Nat) (s : State) : Host.Outcome State Fault Refusal :=
  .next (runLoadZoneUnload h zone s)

/-- R69: a zone's cabin level is set and its targets are formed anew. -/
def setCabinLevel (zone level : Nat) (s : State) : State :=
  refreshZones (s.modZone zone (fun zn => { zn with cabinLevel := min 15 level }))

/-- CABIN_LEVEL (R69). -/
def runCabinLevel (h : ReqHdr) (zone level : Nat) (s : State) : State :=
  takeRequest h 2 .operator (fun s =>
    match s.zone zone with
    | none => refuse .refusedRange s
    | some zn => if zn.kind = .cabin then done (setCabinLevel zone level s) else refuse .refusedState s) s

/-- CABIN_LEVEL. -/
def execCabinLevel (h : ReqHdr) (zone level : Nat) (s : State) : Host.Outcome State Fault Refusal :=
  .next (runCabinLevel h zone level s)

end Sys2Proof.Machine
end

