-- ==== Sys2Proof/Machine/Links.lean ====
section
/-! DEFINITION. FRAME_ARRIVAL: the classing of a frame, the port's transition, and the handing on of its slots, its cell and its
alarm word (section 1.2, sections 2.2 and 2.4). A request cell is decoded by R39 and executed by the meaning of its own row. -/

namespace Sys2Proof.Machine

/-- The meaning of a request row; a command that is an event is carried by no cell. -/
def runRequest (i : Instr) (s : State) : State :=
  match i with
  | .loadPort h n lt => runLoadPort h n lt s
  | .loadStreamMap h n p b => runLoadStreamMap h n p b s
  | .loadStreamUnmap h n => runLoadStreamUnmap h n s
  | .loadRoute h n q => runLoadRoute h n q s
  | .loadAuth h n m => runLoadAuth h n m s
  | .setReport h n => runSetReport h n s
  | .read h t n g => runRead h t n g s
  | .clearCountsPort h p => runClearCountsPort h p s
  | .clearCountsBus h b => runClearCountsBus h b s
  | .clearCountsEvery h => runClearCountsEvery h s
  | .resetNodeJobs h => runResetNodeJobs h s
  | .resetNodeAll h => runResetNodeAll h s
  | .loadOutput h b r d ds => runLoadOutput h b r d ds s
  | .loadZoneLoad h z k f bs d t o l se am => runLoadZoneLoad h z k f bs d t o l se am s
  | .loadZoneUnload h z => runLoadZoneUnload h z s
  | .cabinLevel h z l => runCabinLevel h z l s
  | .pageOpen h p src t g w o c l => runPageOpen h p src t g w o c l s
  | .pageClose h c => runPageClose h c s
  | .loadCadence h n f r l => runLoadCadence h n f r l s
  | .loadSignal h n c l d k => runLoadSignal h n c l d k s
  | .alarmSet h z k => runAlarmSet h z k s
  | .alarmClearCell h z => runAlarmClearCell h z s
  | .alarmClearContact h => runAlarmClearContact h s
  | .loadGroup h g f lim l => runLoadGroup h g f lim l s
  | .talkKeyOn h g => runTalkKeyOn h g s
  | .talkKeyOff h g => runTalkKeyOff h g s
  | .loadSceneScope h n m => runLoadSceneScope h n m s
  | .loadSceneEntries h n f l => runLoadSceneEntries h n f l s
  | .loadCueLoad h n sc x a nx => runLoadCueLoad h n sc x a nx s
  | .loadCueUnload h n => runLoadCueUnload h n s
  | .loadCueMark h n => runLoadCueMark h n s
  | .loadLineGate h l d m => runLoadLineGate h l d m s
  | .loadLineStatus h l src w t => runLoadLineStatus h l src w t s
  | .go h => runGo h s
  | .goto h n => runGoto h n s
  | .applyScene h n t => runApplyScene h n t s
  | .showClearShowStop h => runShowClearShowStop h s
  | .showClearCueMark h => runShowClearCueMark h s
  | .showClearLines h => runShowClearLines h s
  | .loadSensorLoad h n i o l u c st => runLoadSensorLoad h n i o l u c st s
  | .loadSensorUnload h n => runLoadSensorUnload h n s
  | .loadCurve h n f l => runLoadCurve h n f l s
  | .scanStart h f l m => runScanStart h f l m s
  | .scanStop h => runScanStop h s
  | .loadAmp h g m q sb o a b t w => runLoadAmp h g m q sb o a b t w s
  | .ampPolicy h d => runAmpPolicy h d s
  | .faultClear h g => runFaultClear h g s
  | .hardwareReset _ => s
  | .frameArrival _ _ => s
  | .lossTimerExpiry _ => s
  | .portDeparture _ => s
  | .localExchange _ => s
  | .mixPeriod => s
  | .toneVoiceSample => s
  | .stepTimerExpiry _ => s
  | .contactDebounceComplete _ => s
  | .gateDebounceComplete _ _ => s
  | .ampReadyChange _ _ => s
  | .ampFaultInputChange _ _ => s
  | .timeLimitExpiry _ => s
  | .sourceWatchExpiry _ => s
  | .talkTimerExpiry _ _ => s
  | .autoFollowExpiry => s
  | .stretchTimerExpiry _ => s
  | .scanWindowComplete => s
  | .wakeTimerExpiry _ => s
  | .fullWindow _ => s
  | .idleResidencyThreshold _ => s
  | .resetInputLow => s

/-! Taking a cell (R21, R22) -/

/-- R23: how the request in a cell reached the part. -/
def cellHeader (p : Fin 6) (c : Cell) : ReqHdr :=
  { port := p, src := c.src.toNat, tag := c.tag.toNat, bcast := c.dst == 255#8 }

/-- R22, R39: what a cell taken locally is read as. -/
def decodeCell (p : Fin 6) (c : Cell) : Decoded :=
  if 26 < c.len.toNat then .badFormat
  else decodeRequest (cellHeader p c) c.kind.toNat (c.payload.take c.len.toNat)

/-- R22: a cell taken locally is checked, executed and answered. -/
def takeLocal (p : Fin 6) (c : Cell) (s : State) : State :=
  let h := cellHeader p c
  match decodeCell p c with
  | .badFormat => replyTo h .refusedFormat [] s
  | .badChoice cls => replyTo h (if holdsClass s h.src cls then .refusedRange else .refusedAuthority) [] s
  | .command i => if i = .resetNodeAll h then takeResetAll h c s else runRequest i s

/-- R37: whether a cell is an accepted RESET-NODE with scope ALL. -/
def acceptedResetAll (p : Fin 6) (c : Cell) (s : State) : Bool :=
  decodeCell p c == .command (.resetNodeAll (cellHeader p c)) && holdsClass s (cellHeader p c).src .config

/-- R39: whether a kind code is that of REPLY or of a notice. -/
def isAnswerKind (kind : Nat) : Bool := decide (128 ≤ kind) && decide (kind ≤ 131)

/-- R21: a broadcast is forwarded, and taken when its kind is a request; an accepted RESET-NODE with scope ALL queues its own
copies. DESIGN CHOICE (log entry 32): the forwarded copies of a request are queued before it is executed. -/
def takeBroadcast (p : Fin 6) (c : Cell) (s : State) : State :=
  if isRequestKind c.kind.toNat then
    if acceptedResetAll p c s then takeLocal p c s
    else takeLocal p c (queueCopies (broadcastPorts s p.val) c s)
  else queueCopies (broadcastPorts s p.val) c s

/-- R21: a cell is classed by its destination and its kind. -/
def takeCell (p : Fin 6) (c : Cell) (s : State) : State :=
  if c.kind = 0 then s
  else if c.dst.toNat = s.node.id then (if isAnswerKind c.kind.toNat then s else takeLocal p c s)
  else if c.dst = 255 then takeBroadcast p c s
  else forwardCell p.val c s

/-! The frame (R2, R4) -/

/-- Table 1-3: a port on the arrival of a bad frame. -/
def Port.badFrame (q : Port) : Port :=
  match q.state with
  | .down => q
  | .seeking => { q with good := 0 }
  | .up => { q with crcErrors := bump16 q.crcErrors }

/-- Table 1-3, R4: a port on the arrival of a good frame of a sender. -/
def Port.goodFrame (sender : Nat) (q : Port) : Port :=
  let q := { q with neighbour := some sender, loss := some 0 }
  match q.state with
  | .down => { q with state := .seeking, good := 1 }
  | .seeking => if q.good + 1 < 8 then { q with good := q.good + 1 } else { q with state := .up, good := 8 }
  | .up => q

/-- R2, R125: port p has become UP: streams are re-selected, the notice is composed, a trunk ends the island hold. -/
def portRaised (p : Nat) (s : State) : State :=
  let s1 := portNotice p true (reselectStreams p s)
  if p < 2 then setIslandHold false s1 else s1

/-- R4, R124: a trunk's alarm word replaces its received word, and the beacon is computed again. -/
def takeAlarmWord (p : Nat) (w : AlarmWord) (s : State) : State :=
  concludeAlarm s (computeBeacon (s.modPort p (fun q => { q with rxAlarm := some w })))

/-- R4: a frame is handed on: slots, then the cell, then a trunk's alarm word. DESIGN CHOICE (log entry 25): the word is handed on
only while the cell has left the port UP. -/
def handOn (p : Fin 6) (bytes : List Byte) (s : State) : State :=
  let s1 := takeCell p (frameCell bytes) (writeSlots p.val (frameSlot bytes) s)
  if p.val < 2 ∧ s1.portUp p.val then takeAlarmWord p.val (frameAlarm bytes) s1 else s1

/-- R2, R4: the arrival of a good frame. -/
def goodFrame (p : Fin 6) (bytes : List Byte) (s : State) : State :=
  let s1 := s.modPort p.val (Port.goodFrame (frameSender bytes))
  let s2 := if s1.portUp p.val && !s.portUp p.val then updateLines s (portRaised p.val s1) else s1
  if s2.portUp p.val then handOn p bytes s2 else s2

/-- FRAME_ARRIVAL (R1, R2, R4). -/
def runFrameArrival (p : Fin 6) (bytes : List Byte) (s : State) : State :=
  whileRunning (fun s => if frameGood bytes then goodFrame p bytes s else s.modPort p.val Port.badFrame) s

/-- FRAME_ARRIVAL. -/
def execFrameArrival (p : Fin 6) (bytes : List Byte) (s : State) : Host.Outcome State Fault Refusal :=
  .next (runFrameArrival p bytes s)

end Sys2Proof.Machine
end

