-- ==== Sys2Proof/Machine/Clock.lean ====
section
/-! DEFINITION. One frame period of the frame clock (section 0.6.1), which has no row of its own: every timer of the part counts
one, and each that reaches its limit has its expiry. DESIGN CHOICE (log entry 2): a step on an empty queue is one frame period.
Mix periods, voice samples, departures and exchanges are commands, since the spec lets them fall in any order within a frame
period; a step timer counts with its voice's sample (R112), a measuring window with the exchange (R178). -/

namespace Sys2Proof.Machine

/-! Counting -/

/-- R3: a running loss timer measures one frame period more. -/
def Port.count (q : Port) : Port := { q with loss := q.loss.map (fun n => n + 1) }

/-- R127: the contact is sampled. -/
def countContact (input : Bool) (a : Alarm) : Alarm :=
  { a with contactCount := if input = a.contactClosed then 0 else a.contactCount + 1 }

/-- R165: a gate line is sampled. -/
def Gate.tick (g : Gate) : Gate := { g with count := if g.input = g.level then 0 else g.count + 1 }

/-- R100, R101: a claim's time-limit timer and source watch count. -/
def Claim.tick (available : Bool) (c : Claim) : Claim :=
  { c with timer := c.timer.map (fun n => n - 1),
           watch := if available then 0 else min Config.sourceWatch (c.watch + 1) }

/-- R146: a running talk timer falls by 1. -/
def Member.tick (m : Member) : Member := { m with timer := m.timer.map (fun n => n - 1) }

/-- R146: the members of a group. -/
def Group.tick (g : Group) : Group := { g with members := g.members.map Member.tick }

/-- R170: a stretch timer counts, and runs out when it reaches 0. -/
def Line.tick (sourceIsTrue : Bool) (l : Line) : Line :=
  if 1 < l.timer then { l with timer := l.timer - 1 } else stretchOut sourceIsTrue l

/-- R163, R165, R170: the gate lines, the auto-follow timer outside HOLD, and the status lines. DESIGN CHOICE (log entry 2): a stretch
timer runs out here, before every other expiry of the frame period. -/
def countShow (isTrue : LineSource → Bool) (c : ShowCtl) : ShowCtl :=
  { c with gates := c.gates.map Gate.tick, lines := c.lines.map (fun l => l.tick (isTrue l.source)),
           autoFollow := if c.hold || c.autoCounted then c.autoFollow else c.autoFollow.map (fun n => n - 1) }

/-- R185 to R187: the wake timer, the window timer and the idle residency of a group count, but for one that has had its count of this
frame period (log entry 46). -/
def Amp.tick (a : Amp) : Amp :=
  { a with wakeTimer := a.wakeTimer.map (fun n => n - 1),
           windowTimer := if a.windowCounted then a.windowTimer else a.windowTimer.map (fun n => n + 1),
           residency := if (idleDepth a.state).isSome ∧ a.demand = false ∧ a.residencyCounted = false then
             a.residency.map (fun n => min Config.residencyCap (n + 1)) else a.residency }

/-- One frame period is counted by every timer of the part but those of the commands: a step timer falls with its voice's sample. -/
def countAll (s : State) : State :=
  { s with
    ports := s.ports.map Port.count
    alarm := countContact s.pins.contactIn s.alarm
    claims := { s.claims with table := s.claims.table.map (Option.map (fun c => c.tick (streamAvailable s c.source))) }
    talk := { s.talk with groups := s.talk.groups.map Group.tick }
    showCtl := countShow (sourceTrue s) s.showCtl
    power := { s.power with groups := s.power.groups.map Amp.tick } }

/-! Expiries, each judged when its turn comes -/

/-- R3. -/
def duePort (p : Nat) (s : State) : State :=
  if (s.port p).loss.any (fun n => decide (lossLength (s.port p).lt ≤ n)) then runLossTimerExpiry p s else s

/-- R127. -/
def dueContact (s : State) : State :=
  if Config.contactDebounce ≤ s.alarm.contactCount then runContactDebounceComplete s.pins.contactIn s else s

/-- R163. -/
def dueAutoFollow (s : State) : State := if s.showCtl.autoFollow = some 0 then runAutoFollowExpiry s else s

/-- R165: the debounce length of a gate line is its setting times 48 frame periods. -/
def dueGate (n : Nat) (s : State) : State :=
  if 0 < (s.gate n).count ∧ (s.gate n).setting * Config.perMs ≤ (s.gate n).count then
    runGateDebounceComplete n (s.gate n).input s else s

/-- R100, R101. DESIGN CHOICE (log entry 2): of a time limit and a source watch of one claim that run out in one frame period the time
limit is taken first, so that the claim ends with reason TIME_LIMIT. -/
def dueClaim (c : Nat) (s : State) : State :=
  let s := if (s.claim c).any (fun cl => cl.timer == some 0) then runTimeLimitExpiry c s else s
  if (s.claim c).any (fun cl => decide (Config.sourceWatch ≤ cl.watch)) then runSourceWatchExpiry c s else s

/-- R146. -/
def dueMember (g i : Nat) (s : State) : State :=
  if ((s.group g).members[i]?).any (fun m => m.timer == some 0) then runTalkTimerExpiry g i s else s

/-- R146: every member of a group. -/
def dueGroup (g : Nat) (s : State) : State := forUpTo Config.groupMembers (dueMember g) s

/-- R185 to R187. DESIGN CHOICE (log entry 2): in one frame period the wake limit is taken first, then the full window, then the idle
target. -/
def dueAmp (g : Nat) (s : State) : State :=
  let s := if (s.amp g).wakeTimer = some 0 then runWakeTimerExpiry g s else s
  let s := if (s.amp g).windowTimer.any (fun n => decide ((s.amp g).window * Config.perSecond ≤ n)) then runFullWindow g s else s
  s.modAmp g (judgeIdle s.power.policy)

/-- R178. -/
def dueWindow (s : State) : State :=
  if s.ambient.scan.window.any (fun w => decide (Config.windowLength ≤ w.elapsed)) then runScanWindowComplete s else s

/-- Every expiry of a frame period. DESIGN CHOICE (log entry 2): the order of the kinds, and within each kind rising numbers, so that of
two gate edges in one frame period the lower line's is taken first. -/
def dueAll (s : State) : State :=
  let s := dueContact (forUpTo Config.ports duePort s)
  let s := forUpTo 4 dueGate (dueAutoFollow s)
  let s := forUpTo Config.claims dueClaim (endPhases s)
  dueWindow (forUpTo Config.ampGroups dueAmp (forUpTo Config.groups dueGroup s))

/-- The frame period ends: what rose in it has no longer just risen (R168, R170, log entries 43 and 44), every timer counts again
in the next (R163, R185, R187, log entry 46), and a window that began in it takes its first sample there (R178, log entry 47). -/
def endPeriod (s : State) : State :=
  { modWindow (fun w => { w with fresh := false }) s with
    showCtl := { s.showCtl with stopRose := false, autoCounted := false,
                                lines := s.showCtl.lines.map (fun l => { l with rose := false }) }
    power := { s.power with groups := s.power.groups.map (fun a =>
      { a with windowCounted := false, residencyCounted := false }) } }

/-- One frame period; while hardware reset is in force nothing counts (R20). -/
def framePeriod (s : State) : State := whileRunning (fun s => endPeriod (dueAll (countAll s))) s

end Sys2Proof.Machine
end

