-- ==== Sys2Proof/Machine/Dispatch.lean ====
section
/-! DEFINITION. The meaning of each command, one arm for each row of spec/opcode_table.json. -/

namespace Sys2Proof.Machine

/-- The effect of a command on everything but the queue. -/
def exec (i : Instr) (s : State) : Host.Outcome State Fault Refusal :=
  match i with
  | .hardwareReset straps => Sys2Proof.Machine.execHardwareReset straps s
  | .frameArrival port bytes => Sys2Proof.Machine.execFrameArrival port bytes s
  | .lossTimerExpiry port => Sys2Proof.Machine.execLossTimerExpiry port s
  | .portDeparture port => Sys2Proof.Machine.execPortDeparture port s
  | .localExchange inputs => Sys2Proof.Machine.execLocalExchange inputs s
  | .mixPeriod => Sys2Proof.Machine.execMixPeriod s
  | .toneVoiceSample => Sys2Proof.Machine.execToneVoiceSample s
  | .stepTimerExpiry voice => Sys2Proof.Machine.execStepTimerExpiry voice s
  | .contactDebounceComplete closed => Sys2Proof.Machine.execContactDebounceComplete closed s
  | .gateDebounceComplete line high => Sys2Proof.Machine.execGateDebounceComplete line high s
  | .ampReadyChange group high => Sys2Proof.Machine.execAmpReadyChange group high s
  | .ampFaultInputChange group high => Sys2Proof.Machine.execAmpFaultInputChange group high s
  | .timeLimitExpiry claim => Sys2Proof.Machine.execTimeLimitExpiry claim s
  | .sourceWatchExpiry claim => Sys2Proof.Machine.execSourceWatchExpiry claim s
  | .talkTimerExpiry group member => Sys2Proof.Machine.execTalkTimerExpiry group member s
  | .autoFollowExpiry => Sys2Proof.Machine.execAutoFollowExpiry s
  | .stretchTimerExpiry line => Sys2Proof.Machine.execStretchTimerExpiry line s
  | .scanWindowComplete => Sys2Proof.Machine.execScanWindowComplete s
  | .wakeTimerExpiry group => Sys2Proof.Machine.execWakeTimerExpiry group s
  | .fullWindow group => Sys2Proof.Machine.execFullWindow group s
  | .idleResidencyThreshold group => Sys2Proof.Machine.execIdleResidencyThreshold group s
  | .loadPort h port lt => Sys2Proof.Machine.execLoadPort h port lt s
  | .loadStreamMap h stream primary backup => Sys2Proof.Machine.execLoadStreamMap h stream primary backup s
  | .loadStreamUnmap h stream => Sys2Proof.Machine.execLoadStreamUnmap h stream s
  | .loadRoute h node port => Sys2Proof.Machine.execLoadRoute h node port s
  | .loadAuth h node classes => Sys2Proof.Machine.execLoadAuth h node classes s
  | .setReport h node => Sys2Proof.Machine.execSetReport h node s
  | .read h table index segment => Sys2Proof.Machine.execRead h table index segment s
  | .clearCountsPort h port => Sys2Proof.Machine.execClearCountsPort h port s
  | .clearCountsBus h bus => Sys2Proof.Machine.execClearCountsBus h bus s
  | .clearCountsEvery h => Sys2Proof.Machine.execClearCountsEvery h s
  | .resetNodeJobs h => Sys2Proof.Machine.execResetNodeJobs h s
  | .resetNodeAll h => Sys2Proof.Machine.execResetNodeAll h s
  | .loadOutput h bus role delay dests => Sys2Proof.Machine.execLoadOutput h bus role delay dests s
  | .loadZoneLoad h zone kind fireZone buses duck threshold override layerStep sensor amp => Sys2Proof.Machine.execLoadZoneLoad h zone kind fireZone buses duck threshold override layerStep sensor amp s
  | .loadZoneUnload h zone => Sys2Proof.Machine.execLoadZoneUnload h zone s
  | .cabinLevel h zone level => Sys2Proof.Machine.execCabinLevel h zone level s
  | .pageOpen h priority source target grantRule wait onPreempt chime limit => Sys2Proof.Machine.execPageOpen h priority source target grantRule wait onPreempt chime limit s
  | .pageClose h claim => Sys2Proof.Machine.execPageClose h claim s
  | .loadCadence h cadence first repeats steps => Sys2Proof.Machine.execLoadCadence h cadence first repeats steps s
  | .loadSignal h signal cadence level duck kinds => Sys2Proof.Machine.execLoadSignal h signal cadence level duck kinds s
  | .alarmSet h zones kind => Sys2Proof.Machine.execAlarmSet h zones kind s
  | .alarmClearCell h zones => Sys2Proof.Machine.execAlarmClearCell h zones s
  | .alarmClearContact h => Sys2Proof.Machine.execAlarmClearContact h s
  | .loadGroup h group first limit members => Sys2Proof.Machine.execLoadGroup h group first limit members s
  | .talkKeyOn h group => Sys2Proof.Machine.execTalkKeyOn h group s
  | .talkKeyOff h group => Sys2Proof.Machine.execTalkKeyOff h group s
  | .loadSceneScope h scene scope => Sys2Proof.Machine.execLoadSceneScope h scene scope s
  | .loadSceneEntries h scene first entries => Sys2Proof.Machine.execLoadSceneEntries h scene first entries s
  | .loadCueLoad h cue scene crossfade autoFollow next => Sys2Proof.Machine.execLoadCueLoad h cue scene crossfade autoFollow next s
  | .loadCueUnload h cue => Sys2Proof.Machine.execLoadCueUnload h cue s
  | .loadCueMark h cue => Sys2Proof.Machine.execLoadCueMark h cue s
  | .loadLineGate h line setting mode => Sys2Proof.Machine.execLoadLineGate h line setting mode s
  | .loadLineStatus h line source width stretch => Sys2Proof.Machine.execLoadLineStatus h line source width stretch s
  | .go h => Sys2Proof.Machine.execGo h s
  | .goto h cue => Sys2Proof.Machine.execGoto h cue s
  | .applyScene h scene crossfade => Sys2Proof.Machine.execApplyScene h scene crossfade s
  | .showClearShowStop h => Sys2Proof.Machine.execShowClearShowStop h s
  | .showClearCueMark h => Sys2Proof.Machine.execShowClearCueMark h s
  | .showClearLines h => Sys2Proof.Machine.execShowClearLines h s
  | .loadSensorLoad h sensor input offset low high curve compStep => Sys2Proof.Machine.execLoadSensorLoad h sensor input offset low high curve compStep s
  | .loadSensorUnload h sensor => Sys2Proof.Machine.execLoadSensorUnload h sensor s
  | .loadCurve h curve first points => Sys2Proof.Machine.execLoadCurve h curve first points s
  | .scanStart h first last mode => Sys2Proof.Machine.execScanStart h first last mode s
  | .scanStop h => Sys2Proof.Machine.execScanStop h s
  | .loadAmp h group clearMode quietAfter standbyAfter offAfter wakeStandby wakeOff threshold window => Sys2Proof.Machine.execLoadAmp h group clearMode quietAfter standbyAfter offAfter wakeStandby wakeOff threshold window s
  | .ampPolicy h deepest => Sys2Proof.Machine.execAmpPolicy h deepest s
  | .faultClear h group => Sys2Proof.Machine.execFaultClear h group s
  | .resetInputLow => Sys2Proof.Machine.execResetInputLow s

end Sys2Proof.Machine
end

