-- ==== Sys2Proof/Machine/Step.lean ====
section
/-! DEFINITION. One step: the command at the front of the queue, or one frame period when no command waits. -/

namespace Sys2Proof.Machine

/-- A step takes the command at the front of the queue. DESIGN CHOICE (log entry 2): on an empty queue it is one frame period of the
frame clock, which answers a next state like any command. -/
def step (s : State) : Host.Outcome State Fault Refusal :=
  match s.pending with
  | [] => .next (framePeriod s)
  | c :: rest => exec c (s.setPending rest)

/-- The state with the command a table word spells put at the front of its queue; no table word spells one. -/
def State.withFetchWord (s : State) (nbits w : Nat) : State :=
  match decodeTableWord nbits w with
  | some c => s.setPending (c :: s.pending)
  | none => s

end Sys2Proof.Machine
end

