-- ==== Sys2Proof/Safety.lean ====
section
/-! DEFINITION. What a safe run is, in the terms the statements use: the parts a command leaves unchanged (its frame), the
admission of a request, the class and length of each request, and the invariants that every step keeps. -/

namespace Sys2Proof.Machine

/-! The parts of the state -/

/-- The parts of the state that a frame names one by one. -/
inductive Part where
  | links | queues | streams | node
  | busRecords | busOutputs | crosspoints
  | zoneSettings | cabinLevels | held | layers | layerCoefs | applied | comp
  | claims | voices | cadences
  | signals | fireSources | resolved | contact | islandHold | fallback
  | groupRecords | talkers | calling
  | scenes | cues | engine | autoFollow | cueMark | cueLatch | showStop | gates | hold | lines
  | sensors | curves | scan | windowMarks
  | ampSettings | ampInputs | ampStates | policy
  | pins | pending
  deriving DecidableEq, Repr

/-- A port without its egress control queue and its control-drop counter. -/
def Port.link (q : Port) : Port := { q with egress := [], drops := 0 }

/-- Everything of the scan but the zone set of its window with the contamination marks. -/
def Scan.measuring (c : Scan) : Scan := { c with window := c.window.map (fun w => { w with zones := [] }) }

/-- A member without its talk state and its talk timer. -/
def Member.record (m : Member) : Member := { m with state := .idle, timer := none }

/-- A part stands in one state as it stands in another. -/
def Part.same (p : Part) (s t : State) : Prop :=
  match p with
  | .links => t.ports.map Port.link = s.ports.map Port.link
  | .queues => t.ports.map (fun q => (q.egress, q.drops)) = s.ports.map (fun q => (q.egress, q.drops))
  | .streams => t.streams = s.streams
  | .node => t.node = s.node
  | .busRecords => t.buses.map (fun b => (b.role, b.zone, b.dests)) = s.buses.map (fun b => (b.role, b.zone, b.dests))
  | .busOutputs => t.buses.map (fun b => (b.clips, b.line, b.output)) = s.buses.map (fun b => (b.clips, b.line, b.output))
  | .crosspoints => t.buses.map Bus.live = s.buses.map Bus.live
  | .zoneSettings => t.zones.map (Option.map settings) = s.zones.map (Option.map settings)
  | .cabinLevels => t.zones.map (Option.map Zone.cabinLevel) = s.zones.map (Option.map Zone.cabinLevel)
  | .held => t.zones.map (Option.map Zone.held) = s.zones.map (Option.map Zone.held)
  | .layers => t.zones.map (Option.map layers) = s.zones.map (Option.map layers)
  | .layerCoefs => t.zones.map (Option.map coefs) = s.zones.map (Option.map coefs)
  | .applied => t.zones.map (Option.map Zone.applied) = s.zones.map (Option.map Zone.applied)
  | .comp => t.zones.map (Option.map comp) = s.zones.map (Option.map comp)
  | .claims => t.claims = s.claims
  | .voices => t.tone.voices = s.tone.voices
  | .cadences => t.tone.cadences = s.tone.cadences
  | .signals => t.alarm.signals = s.alarm.signals
  | .fireSources => t.alarm.fire.map (fun f => (f.beacon, f.cell)) = s.alarm.fire.map (fun f => (f.beacon, f.cell))
  | .resolved => t.alarm.fire.map FireZone.resolved = s.alarm.fire.map FireZone.resolved
  | .contact => (t.alarm.contactClosed, t.alarm.contactCount, t.alarm.contactLatch) =
      (s.alarm.contactClosed, s.alarm.contactCount, s.alarm.contactLatch)
  | .islandHold => t.alarm.islandHold = s.alarm.islandHold
  | .fallback => t.alarm.fallback = s.alarm.fallback
  | .groupRecords => t.talk.groups.map (fun g => (g.limit, g.members.map Member.record)) =
      s.talk.groups.map (fun g => (g.limit, g.members.map Member.record))
  | .talkers => t.talk.groups.map (fun g => (g.talkers, g.members.map (fun m => (m.state, m.timer)))) =
      s.talk.groups.map (fun g => (g.talkers, g.members.map (fun m => (m.state, m.timer))))
  | .calling => t.talk.calling = s.talk.calling
  | .scenes => t.showCtl.scenes = s.showCtl.scenes
  | .cues => t.showCtl.cues = s.showCtl.cues
  | .engine => (t.showCtl.engine, t.showCtl.current, t.showCtl.watched) =
      (s.showCtl.engine, s.showCtl.current, s.showCtl.watched)
  | .autoFollow => (t.showCtl.autoFollow, t.showCtl.autoCounted) = (s.showCtl.autoFollow, s.showCtl.autoCounted)
  | .cueMark => t.showCtl.cueMark = s.showCtl.cueMark
  | .cueLatch => t.showCtl.cueLatch = s.showCtl.cueLatch
  | .showStop => t.showCtl.showStop = s.showCtl.showStop
  | .gates => (t.showCtl.gates, t.showCtl.stopRose) = (s.showCtl.gates, s.showCtl.stopRose)
  | .hold => t.showCtl.hold = s.showCtl.hold
  | .lines => t.showCtl.lines = s.showCtl.lines
  | .sensors => t.ambient.sensors = s.ambient.sensors
  | .curves => t.ambient.curves = s.ambient.curves
  | .scan => t.ambient.scan.measuring = s.ambient.scan.measuring
  | .windowMarks => t.ambient.scan.window.map Window.zones = s.ambient.scan.window.map Window.zones
  | .ampSettings => t.power.groups.map ampSettings = s.power.groups.map ampSettings
  | .ampInputs => t.power.groups.map (fun a => (a.readyIn, a.faultIn)) = s.power.groups.map (fun a => (a.readyIn, a.faultIn))
  | .ampStates => t.power.groups.map ampState = s.power.groups.map ampState
  | .policy => t.power.policy = s.power.policy
  | .pins => t.pins = s.pins
  | .pending => t.pending = s.pending
where
  settings (z : Zone) := (z.kind, z.fireZone, z.buses, z.duck, z.threshold, z.override, z.layerStep, z.sensor, z.amp)
  layers (z : Zone) := (z.mode, z.kpTarget, z.kvTarget, z.kaTarget)
  coefs (z : Zone) := (z.kp, z.kv, z.ka)
  comp (z : Zone) := (z.compCur, z.compTarget)
  ampSettings (a : Amp) := (a.auto, a.quietAfter, a.standbyAfter, a.offAfter, a.wakeStandby, a.wakeOff, a.threshold, a.window)
  ampState (a : Amp) := (a.state, a.reason, a.residency, a.wakeTimer, a.early, a.windowTimer, a.earlyFlag, a.demand, a.windowCounted,
    a.residencyCounted)

/-- Every part but those of a list stands in t as it stood in s. -/
def Only (changed : List Part) (s t : State) : Prop := ∀ p, p ∉ changed → p.same s t

/-- What the settling of an event may change beside what the event itself writes: the queues its notices join, claims, voices,
layer modes and targets, talkers and calling counts, status lines, contamination marks and the states of amp groups. -/
def settling : List Part :=
  [.queues, .claims, .voices, .layers, .talkers, .calling, .lines, .windowMarks, .ampStates]

/-- What an event that determines the applied kinds again may change beside: what settling may, the applied kinds, the show-stop
latch with the program-held flags, and the auto-follow timer the latch stops. -/
def applying : List Part := settling ++ [.applied, .held, .showStop, .autoFollow]

/-- What an event of an alarm source may change beside its source: the resolved kinds, and what their application may. -/
def alarming : List Part := applying ++ [.resolved]

/-! Requests -/

/-- R28, Table 2-1: the authority class a request needs; none for a command that is an event. -/
def requestClass : Instr → Option AuthClass
  | .hardwareReset _ => none
  | .frameArrival _ _ => none
  | .lossTimerExpiry _ => none
  | .portDeparture _ => none
  | .localExchange _ => none
  | .mixPeriod => none
  | .toneVoiceSample => none
  | .stepTimerExpiry _ => none
  | .contactDebounceComplete _ => none
  | .gateDebounceComplete _ _ => none
  | .ampReadyChange _ _ => none
  | .ampFaultInputChange _ _ => none
  | .timeLimitExpiry _ => none
  | .sourceWatchExpiry _ => none
  | .talkTimerExpiry _ _ => none
  | .autoFollowExpiry => none
  | .stretchTimerExpiry _ => none
  | .scanWindowComplete => none
  | .wakeTimerExpiry _ => none
  | .fullWindow _ => none
  | .idleResidencyThreshold _ => none
  | .loadPort _ _ _ => some .config
  | .loadStreamMap _ _ _ _ => some .config
  | .loadStreamUnmap _ _ => some .config
  | .loadRoute _ _ _ => some .config
  | .loadAuth _ _ _ => some .bridge
  | .setReport _ _ => some .config
  | .read _ _ _ _ => some .config
  | .clearCountsPort _ _ => some .config
  | .clearCountsBus _ _ => some .config
  | .clearCountsEvery _ => some .config
  | .resetNodeJobs _ => some .config
  | .resetNodeAll _ => some .config
  | .loadOutput _ _ _ _ _ => some .config
  | .loadZoneLoad _ _ _ _ _ _ _ _ _ _ _ => some .config
  | .loadZoneUnload _ _ => some .config
  | .cabinLevel _ _ _ => some .operator
  | .pageOpen _ p _ _ _ _ _ _ _ => some (if p < 7 then .operator else .bridge)
  | .pageClose _ _ => some .operator
  | .loadCadence _ _ _ _ _ => some .config
  | .loadSignal _ _ _ _ _ _ => some .bridge
  | .alarmSet _ _ _ => some .bridge
  | .alarmClearCell _ _ => some .bridge
  | .alarmClearContact _ => some .bridge
  | .loadGroup _ _ _ _ _ => some .config
  | .talkKeyOn _ _ => some .operator
  | .talkKeyOff _ _ => some .operator
  | .loadSceneScope _ _ _ => some .config
  | .loadSceneEntries _ _ _ _ => some .config
  | .loadCueLoad _ _ _ _ _ _ => some .config
  | .loadCueUnload _ _ => some .config
  | .loadCueMark _ _ => some .config
  | .loadLineGate _ _ _ _ => some .config
  | .loadLineStatus _ _ _ _ _ => some .config
  | .go _ => some .operator
  | .goto _ _ => some .operator
  | .applyScene _ _ _ => some .operator
  | .showClearShowStop _ => some .operator
  | .showClearCueMark _ => some .operator
  | .showClearLines _ => some .operator
  | .loadSensorLoad _ _ _ _ _ _ _ _ => some .config
  | .loadSensorUnload _ _ => some .config
  | .loadCurve _ _ _ _ => some .config
  | .scanStart _ _ _ _ => some .operator
  | .scanStop _ => some .operator
  | .loadAmp _ _ _ _ _ _ _ _ _ _ => some .config
  | .ampPolicy _ _ => some .bridge
  | .faultClear _ _ => some .operator
  | .resetInputLow => none

/-! The layout of a request (R39). A byte that a payload does not hold reads as 0 here. -/

/-- R39: the place of the action, form, scope, source, item or line byte of a request kind that has one, and how many values it has. -/
def choicePlace : Nat → Option (Nat × Nat)
  | 8 | 17 | 29 => some (0, 2)
  | 7 | 21 | 26 => some (0, 3)
  | 22 => some (0, 8)
  | 2 | 10 | 19 | 20 | 27 => some (1, 2)
  | 12 => some (2, 2)
  | _ => none

/-- R39: whether a payload holds that byte with none of its values. -/
def choiceUnknown (kind : Nat) (p : List Byte) : Bool :=
  (choicePlace kind).any (fun c => (p[c.1]?).any (fun b => decide (c.2 ≤ b.toNat)))

/-- R28, Table 2-1: the class that such a request needs. -/
def choiceClass (kind : Nat) (p : List Byte) : AuthClass :=
  match kind with
  | 12 => if (p.getD 0 0).toNat < 7 then .operator else .bridge
  | 17 => .bridge
  | 19 | 26 | 29 => .operator
  | _ => .config

/-- R39: the payload length that a request kind requires under its action, form and counts. -/
def requestLength (kind : Nat) (p : List Byte) : Nat :=
  let b := fun n => (p.getD n 0).toNat
  match kind with
  | 2 => if b 1 = 0 then 8 else 2
  | 7 => if b 0 = 2 then 1 else 2
  | 9 => 5 + 3 * b 4
  | 10 => if b 1 = 0 then 14 + b 4 else 2
  | 12 => if b 2 = 0 then 21 else 10
  | 14 => 4 + 10 * b 3
  | 15 => 7
  | 17 => if b 0 = 0 then 3 else 1
  | 18 => 4 + 9 * b 3
  | 20 => if b 1 = 0 then 10 else 4 + 5 * b 3
  | 21 => if b 0 = 0 then 8 else 2
  | 22 => if b 0 ≤ 3 then 3 else 4
  | 23 => 0
  | 27 => if b 1 = 0 then 14 else 2
  | 28 => 3 + 5 * b 2
  | 29 => if b 0 = 0 then 4 else 1
  | 30 => 15
  | 6 | 16 | 25 => 3
  | 1 | 3 | 4 | 11 | 19 => 2
  | _ => 1

/-- R22, R39: the length of a payload fails the format check. One whose action, form or line is none of its values has no fields beyond
it, and fails only where every value has the same length (log entry 17). -/
def FormatFails (kind : Nat) (p : List Byte) : Prop :=
  p.length ≠ requestLength kind p ∧ (choiceUnknown kind p = true → kind ∈ [8, 19, 26])

/-- R39: the places of the flags of a request. -/
def flagPlaces (kind : Nat) (p : List Byte) : List Nat :=
  match kind with
  | 12 => [if p.getD 2 0 = 0 then 16 else 5]
  | 14 => [1]
  | 18 => 1 :: (List.range (p.getD 3 0).toNat).flatMap (fun j => [4 + 9 * j + 5, 4 + 9 * j + 6])
  | 20 => if p.getD 1 0 = 0 then [] else [2]
  | 28 => [1]
  | _ => []

/-- R39: a payload with each flag that is set carried as 1. -/
def flagsAsOne (kind : Nat) (p : List Byte) : List Byte :=
  p.mapIdx (fun n b => if n ∈ flagPlaces kind p ∧ b ≠ 0 then 1 else b)

/-- R22: the part is out of reset and the source of a request holds the class it needs, so that the owning block decides. -/
def Admitted (h : ReqHdr) (cls : AuthClass) (s : State) : Prop :=
  s.pins.resetLow = false ∧ holdsClass s h.src cls = true

/-- R7, R15, R38, R61, R79, R105, R120, R137, R153, R172, R181, R192: every block of t stands at its reset values. Left to the
reset at hand: the node identity, the fallback flag and the levels of the input pins. -/
def AtResetValues (t : State) : Prop :=
  t.ports = List.replicate 6 portReset ∧ t.streams = List.replicate 128 streamReset ∧ t.node = nodeReset t.node.id ∧
  t.buses = List.replicate 64 busReset ∧ t.zones = List.replicate 96 none ∧ t.claims = claimsReset ∧ t.tone = toneReset ∧
  t.alarm = alarmReset t.alarm.fallback ∧ t.talk = talkReset ∧ t.showCtl = showReset (t.showCtl.gates.map Gate.input) ∧
  t.ambient = ambientReset ∧ t.power.policy = policyReset

/-! What an event does to the claims and to the talkers -/

/-- The fields of a claim that stand from its acceptance to its end, and its source watch. -/
def Claim.fixed (c : Claim) : Claim :=
  { c with state := .queued, targets := c.targets.map (fun t => (t.1, .out)), started := false, chimeSkipped := false, voice := none,
           timer := none, rank := 0 }

/-- R89 to R95: the state an event leaves a claim in that stood as e before it, by the heads and the readiness the event leaves. A
claim that heads no zone falls back, is SUSPENDED, or ends by DROP, which the beginning of an alarm does not do. One that heads a zone
goes on; it starts when its grant rule is met, wakes until every zone it heads is ready, and then sounds its chime or is LIVE. A chime
that finds no voice, or whose voice an alarm takes, is skipped (R91, R92), and one cut short by a suspension sets the flag too (Table
5-1). The heads are the ones the whole event leaves (DESIGN CHOICE, log entry 33). -/
def Passed (byAlarm : Bool) (t : State) (d : Nat) (e : Claim) : Prop :=
  let heads := (e.targets.map Prod.fst).filter (fun z => headOf t z == some d)
  let stands := (e.targets.map Prod.fst).filter (fun z => (t.claimList z).contains d)
  let begun := e.state = .chiming ∨ e.state = .live ∨ (e.state = .waking ∧ e.started = true)
  let met := if e.all then stands ≠ [] ∧ stands = heads else heads ≠ []
  if heads = [] ∧ begun ∧ e.drop = true ∧ byAlarm = false then t.claim d = none
  else ∃ f, t.claim d = some f ∧ f.fixed = e.fixed ∧
    f.started = (e.started || (e.state != f.state && (f.state == .chiming || f.state == .live))) ∧
    f.timer = (if e.state ≠ .live ∧ f.state = .live ∧ e.limit ≠ 0 ∧ e.timer = none then some (e.limit * 48000) else e.timer) ∧
    (f.state ≠ .live ∨ e.state = .live →
      f.chimeSkipped = (e.chimeSkipped || (e.state == .chiming && f.state == .suspended))) ∧
    (if heads = [] then f.state = (if begun then .suspended else if e.state = .suspended then .suspended else .queued)
    else if e.state = .live then f.state = .live
    else if e.state = .chiming then
      f.state = .chiming ∨ (byAlarm = true ∧ f.state = .live ∧ f.chimeSkipped = true)
    else if e.state = .queued ∧ ¬ met then f.state = .queued
    else if ∃ z ∈ heads, zoneReady t z = false then f.state = .waking
    else if e.started = true ∨ e.chime = none then f.state = .live ∧ f.chimeSkipped = e.chimeSkipped
    else f.state = .chiming ∨ (f.state = .live ∧ f.chimeSkipped = true))

/-- R147 to R149: the talkers follow an event that changes the calling counts. Where no claim departs from CHIMING and LIVE, each talker
whose stream is calling after it is SUSPENDED, its timer running on. Where none enters, the suspended members whose streams call no more
are resumed in rising order at the end of the talker set while it has room, and the others become IDLE. -/
def TalkersFollow (s t : State) : Prop :=
  ((∀ d < 48, inPair (s.claim d) = true → inPair (t.claim d) = true) → ∀ g < 8, t.group g = { s.group g with
    talkers := (s.group g).talkers.filter (fun j => ((s.group g).members[j]?).all (fun m => t.calling m.stream == 0)),
    members := (s.group g).members.map (fun m =>
      if m.state = .talking ∧ 0 < t.calling m.stream then { m with state := .suspended } else m) }) ∧
  ((∀ d < 48, inPair (t.claim d) = true → inPair (s.claim d) = true) → ∀ g < 8,
    let back := (List.range (s.group g).members.length).filter (fun i =>
      ((s.group g).members[i]?).any (fun m => m.state == .suspended && t.calling m.stream == 0))
    let resumed := back.take ((s.group g).limit - (s.group g).talkers.length)
    t.group g = { s.group g with
      talkers := (s.group g).talkers ++ resumed,
      members := (s.group g).members.mapIdx (fun i m =>
        if i ∈ resumed then { m with state := .talking } else if i ∈ back then { m with state := .idle, timer := none } else m) })

/-! What joins a queue by route -/

/-- R24, R32: the port that leads to a node: that of its route, or else the active trunk. -/
def leadsTo (s : State) (n : Nat) : Option Nat :=
  (s.node.routes.getD n none).or
    (if (s.port 0).state = .up then some 0 else if (s.port 1).state = .up then some 1 else none)

/-- R33, Table 2-4: an event that leaves t sends the report node these EVENT-NOTICEs, in order: they join the queue of the port that
leads to it, in front of every other cell that the event queues. The kind and the layout are those of R39. -/
def EventsNoticed (s t : State) (events : List (List Byte)) : Prop :=
  ∀ r p, s.node.report = some r → r ≠ s.node.id → r ≤ 254 → p < 6 → leadsTo t r = some p →
    (s.port p).egress.length + events.length ≤ 8 →
    ∃ rest, (t.port p).egress = (s.port p).egress ++ events.map (fun fields =>
      { dst := byteOf r, src := byteOf s.node.id, kind := 131, tag := 0, len := byteOf fields.length, status := 0,
        payload := fields ++ List.replicate (26 - fields.length) 0 }) ++ rest

/-- R33: an event that leaves t sends the report node one EVENT-NOTICE, in front of every other cell that the event queues. -/
def EventNoticed (s t : State) (fields : List Byte) : Prop := EventsNoticed s t [fields]

/-- R32, R150, Table 2-3: an event that leaves t queues, in order, a TALK-NOTICE of group n for each of some members: station, member
index, notice state and talk state after. Each joins the port that leads to its station, and nothing else joins that port. -/
def TalkNoticed (s t : State) (n : Nat) (notes : List (Nat × Nat × Nat × Nat)) : Prop :=
  ∀ p < 6,
    let mine := notes.filter (fun x => x.1 != s.node.id && x.1 != 255 && leadsTo s x.1 == some p)
    (s.port p).egress.length + mine.length ≤ 8 → (t.port p).egress = (s.port p).egress ++ mine.map (fun x =>
      { dst := byteOf x.1, src := byteOf s.node.id, kind := 130, tag := 0, len := 5, status := 0,
        payload := [byteOf n, byteOf x.2.1, byteOf x.2.2.1, byteOf x.2.2.2, byteOf (t.group n).talkers.length] ++
          List.replicate 21 0 })

/-! What a good frame brings -/

/-- R2, R4, R10, R11: the state in which the cell of a good frame is taken, on a port that is UP or that the frame raises: the sender and
the loss timer are taken, a raise selects the streams anew and is reported, and the slots are written (before the cell, log entry 25). -/
def beforeCell (p : Nat) (bytes : List Byte) (s : State) : State :=
  let s1 := s.modPort p (fun q => { q with
    state := .up, good := if q.state = .up then q.good else 8, neighbour := some (frameSender bytes), loss := some 0 })
  writeSlots p (frameSlot bytes) (if (s.port p).state = .up then s1 else updateLines s (portRaised p s1))

/-- R4: what follows the cell of a good frame: the alarm word of a trunk, where the cell has left the trunk UP (log entry 25). -/
def afterCell (p : Nat) (bytes : List Byte) (t : State) : State :=
  if p < 2 ∧ (t.port p).state = .up then takeAlarmWord p (frameAlarm bytes) t else t

/-! Invariants: each holds at reset and is kept by every step -/

/-- Table 0-3: the number of records of each table. -/
structure Sized (s : State) : Prop where
  ports : s.ports.length = 6
  streams : s.streams.length = 128
  routes : s.node.routes.length = 255
  buses : s.buses.length = 64
  zones : s.zones.length = 96
  claims : s.claims.table.length = 48
  lists : s.claims.lists.length = 96
  voices : s.tone.voices.length = 8
  cadences : s.tone.cadences.length = 32
  signals : s.alarm.signals.length = 3
  fire : s.alarm.fire.length = 16
  groups : s.talk.groups.length = 8
  calling : s.talk.calling.length = 128
  scenes : s.showCtl.scenes.length = 16
  cues : s.showCtl.cues.length = 64
  gates : s.showCtl.gates.length = 4
  lines : s.showCtl.lines.length = 4
  sensors : s.ambient.sensors.length = 8
  curves : s.ambient.curves.length = 8
  amps : s.power.groups.length = 16

/-- R2, R3, R5, R6, R27: a port's good count and loss timer agree with its state, a running loss timer has not reached the loss
length, only an UP port holds a received alarm word, and queue and counters keep their bounds. -/
def PortRules (q : Port) : Prop :=
  q.egress.length ≤ 8 ∧ q.lt ≤ 15 ∧ q.drops ≤ 65535 ∧ q.crcErrors ≤ 65535 ∧
  (q.state = .down → q.good = 0 ∧ q.loss = none) ∧ (q.state = .seeking → q.good ≤ 7 ∧ q.loss.isSome = true) ∧
  (q.state = .up → q.good = 8 ∧ q.loss.isSome = true) ∧ (∀ n ∈ q.loss, n < 16 * (q.lt + 1)) ∧
  (q.rxAlarm.isSome = true → q.state = .up)

/-- R4: every port keeps its rules, and a spur holds no received alarm word. -/
def LinkInv (s : State) : Prop := (∀ q ∈ s.ports, PortRules q) ∧ ∀ q ∈ s.ports.drop 2, q.rxAlarm = none

/-- R108, R109: a cadence holds at most 12 steps, each with its values in their ranges. -/
def CadenceRules (c : Cadence) : Prop :=
  c.repeats ≤ 255 ∧ c.steps.length ≤ 12 ∧ ∀ st ∈ c.steps,
    st.freq ≤ 20000 ∧ st.duty ≤ 99 ∧ st.level ≤ 16384 ∧ 1 ≤ st.onMs ∧ st.onMs ≤ 65535 ∧ st.offMs ≤ 65535 ∧ 1 ≤ st.count ∧
      st.count ≤ 255

/-- R155, R156: a scene's entries lie in its scope, no two for one bus and stream, at most 16 for one bus. -/
def SceneRules (sc : Scene) : Prop :=
  (sc.entries.map (fun e => (e.bus, e.stream))).Nodup ∧ ∀ e ∈ sc.entries,
    e.bus ≤ 63 ∧ e.stream ≤ 127 ∧ e.coef ≤ 32767 ∧ sc.scope.getLsbD e.bus = true ∧
      sc.entries.countP (fun d => d.bus == e.bus) ≤ 16

/-- R176: a curve holds at most 8 breakpoints with strictly rising thresholds and coefficients from 16,384 to 32,767. -/
def CurveRules (c : List (Nat × Nat)) : Prop :=
  c.length ≤ 8 ∧ (c.map Prod.fst).Pairwise (fun a b => a < b) ∧ ∀ p ∈ c, p.1 ≤ 8421375 ∧ 16384 ≤ p.2 ∧ p.2 ≤ 32767

/-- R26, R29, R34, R108, R155, R176: the tables that requests load keep their rules; the built-in cadences stand as Table 6-3 gives
them. -/
def TableInv (s : State) : Prop :=
  s.node.id ≤ 254 ∧ s.node.auth.length ≤ 16 ∧ (s.node.auth.map (·.id)).Nodup ∧
  (∀ e ∈ s.node.auth, e.id ≤ 254 ∧ (e.config || e.bridge || e.operator) = true) ∧
  (∀ r ∈ s.node.routes, ∀ p ∈ r, p ≤ 5) ∧ (∀ n ∈ s.node.report, n ≤ 254 ∧ n ≠ s.node.id) ∧
  s.tone.cadences.take 3 = builtInCadences ∧ (∀ c ∈ s.tone.cadences, CadenceRules c) ∧
  (s.showCtl.scenes.map (fun sc => sc.entries.length)).sum ≤ 2048 ∧ (∀ sc ∈ s.showCtl.scenes, SceneRules sc) ∧
  ∀ c ∈ s.ambient.curves, CurveRules c

/-- A value lies in the sample range (section 0.6.2). -/
def inRange (x : Sample) : Prop := -8388608 ≤ x ∧ x ≤ 8388607

/-- R46, R50, R52: a crosspoint entry has a step, from 1 to 32,767, exactly in mode RAMP, and a pending coefficient only in mode
ZEROCROSS; its coefficients and its wait keep their ranges. -/
def XPointRules (x : XPoint) : Prop :=
  (x.step.isSome = true ↔ x.mode = .ramp) ∧ (∀ n ∈ x.step, 1 ≤ n ∧ n ≤ 32767) ∧ (x.pending.isSome = true → x.mode = .zeroCross) ∧
  x.cur ≤ 32767 ∧ x.target ≤ 32767 ∧ (∀ n ∈ x.pending, n ≤ 32767) ∧ x.wait ≤ 480

/-- R41, R42, R46, R56: a bus's destinations, clip counter, line and output keep their ranges, only a ZONE bus belongs to a zone or
holds live crosspoints, at most 32 of them, no two for the same stream, and each keeps its rules. At most 16 are not RETIRING, as
many as a scene names for one bus (R155). -/
def BusRules (b : Bus) : Prop :=
  b.dests.length ≤ 4 ∧ b.clips ≤ 65535 ∧ b.line.length ≤ 4800 ∧ inRange b.output ∧ (∀ x ∈ b.line, inRange x) ∧
  (b.role ≠ .zone → b.zone = none ∧ b.live = []) ∧ (b.live.map (·.stream)).Nodup ∧
  b.live.length ≤ 32 ∧ b.live.countP (fun x => !x.retiring) ≤ 16 ∧ ∀ x ∈ b.live, XPointRules x

/-- R17, R42, R45: every bus keeps its rules, no destination stands twice, and the delay lengths fit the pool. -/
def BusInv (s : State) : Prop :=
  (∀ b ∈ s.buses, BusRules b) ∧ (s.buses.flatMap (·.dests)).Nodup ∧ (s.buses.map (fun b => b.line.length)).sum ≤ 32768

/-- R139, R143 to R146, R148: the talker set holds exactly the TALKING members, once each, never more than the limit; an IDLE member
and one that is not latching have no timer. -/
def GroupRules (g : Group) : Prop :=
  1 ≤ g.limit ∧ g.limit ≤ 4 ∧ g.members.length ≤ 10 ∧ (g.members.map (·.station)).Nodup ∧ g.talkers.Nodup ∧
  g.talkers.length ≤ g.limit ∧ (∀ j ∈ g.talkers, j < g.members.length) ∧
  (∀ x ∈ g.members.zipIdx, x.1.state = .talking ↔ x.2 ∈ g.talkers) ∧
  ∀ m ∈ g.members, (m.state = .idle → m.timer = none) ∧ (m.latching = false → m.timer = none) ∧ m.stream ≤ 127

/-- R139, R140, R147 to R149: every talk group keeps its rules; a stream's calling count is the number of CHIMING and LIVE claims of
that source; no talker's stream is calling, and every suspended member's is. -/
def TalkInv (s : State) : Prop :=
  (∀ g ∈ s.talk.groups, GroupRules g) ∧
  (∀ n < 128, s.calling n = s.claims.table.countP (fun o => inPair o && o.any (fun cl => cl.source == n))) ∧
  ∀ g ∈ s.talk.groups, ∀ m ∈ g.members,
    (m.state = .talking → s.calling m.stream = 0) ∧ (m.state = .suspended → 0 < s.calling m.stream)

/-- R82: a claim list holds at most 6 claims, once each, in falling order of priority, each in use with the zone among its
targets. -/
def ListRules (s : State) (z : Nat) (l : List Nat) : Prop :=
  l.length ≤ 6 ∧ l.Nodup ∧ l.Pairwise (fun a b => claimPriority s b ≤ claimPriority s a) ∧
  ∀ c ∈ l, (s.claim c).any (fun cl => cl.targets.any (fun t => t.1 == z)) = true

/-- R81, R82, R102: every claim list keeps its rules, and a claim in use has a priority of at most 7 and stands in a list. -/
def ClaimInv (s : State) : Prop :=
  (∀ x ∈ s.claims.lists.zipIdx, ListRules s x.2 x.1) ∧
  ∀ x ∈ s.claims.table.zipIdx, ∀ cl ∈ x.1, cl.priority ≤ 7 ∧ s.claims.lists.any (fun l => l.contains x.2) = true

/-- R89 to R95, Table 5-2: a claim's state agrees with the zones it heads. A QUEUED claim's grant rule is not met, a SUSPENDED one heads
no zone, a WAKING one heads a zone that is not ready, and a CHIMING or LIVE one heads a zone. A chime voice is held exactly while
CHIMING, and held by the claim. -/
def StateAgrees (s : State) (c : Nat) (cl : Claim) : Prop :=
  let heads := (cl.targets.map Prod.fst).filter (fun z => headOf s z == some c)
  let stands := (cl.targets.map Prod.fst).filter (fun z => (s.claimList z).contains c)
  (match cl.state with
    | .queued => ¬ (if cl.all then stands ≠ [] ∧ stands = heads else heads ≠ [])
    | .suspended => heads = []
    | .waking => ∃ z ∈ heads, zoneReady s z = false
    | _ => heads ≠ []) ∧
  (cl.voice.isSome = true ↔ cl.state = .chiming) ∧ ∀ v ∈ cl.voice, v < 8 ∧ (s.voice v).holder = .claim c

/-- R122, R135: the signal of a kind sounds: it applies to a LOADED zone, or is the fallback signal. -/
abbrev Sounds (s : State) (k : AlarmKind) : Prop :=
  (∃ z < 96, ∃ n ∈ s.zone z, n.applied = some k) ∨ (s.alarm.fallback = true ∧ highestKind s = some k)

/-- The state an event leaves behind, in which it has run through every block. -/
structure Settled (s : State) : Prop where
  /-- R127, R129: every fire zone's resolved kind is the highest of its beacon, cell and contact kinds. -/
  resolved : ∀ f, 1 ≤ f → f ≤ 16 → (s.fireZone f).resolved =
    higher (higher (s.fireZone f).beacon (s.fireZone f).cell) (if s.alarm.contactLatch then some .general else none)
  /-- R130: every LOADED zone's applied kind follows the resolved kind of its fire zone. -/
  applied : ∀ z < 96, ∀ n ∈ s.zone z, n.applied =
    (s.fireZone n.fireZone).resolved.bind (fun k => if (s.signal k).kinds.has n.kind then some k else none)
  /-- Table 5-2. -/
  states : ∀ c < 48, ∀ cl ∈ s.claim c, StateAgrees s c cl
  /-- R83: a grant is none outside the zone's list, WAITING behind its head, and at the head AUDIBLE exactly for a LIVE claim in a
  ready zone. -/
  grants : ∀ c < 48, ∀ cl ∈ s.claim c, ∀ t ∈ cl.targets, t.2 =
    if (s.claimList t.1).contains c = false then .out
    else if headOf s t.1 ≠ some c then .waiting
    else if cl.state = .live ∧ zoneReady s t.1 = true then .audible else .head
  /-- R96: in a zone under alarm no claim below priority 7 is at the head, so that none is AUDIBLE or chiming. -/
  alarmed : ∀ c < 48, ∀ cl ∈ s.claim c, cl.priority < 7 → ∀ t ∈ cl.targets, underAlarm s t.1 = true → t.2 = .out ∨ t.2 = .waiting
  /-- R107, R115: a FREE voice keeps its FREE values, a chime's voice is that of its claim, and a signal holds one voice. -/
  voices : ∀ v < 8, match (s.voice v).holder with
    | .free => s.voice v = voiceFree
    | .claim c => c < 48 ∧ (s.claim c).any (fun cl => cl.voice == some v) = true
    | .signal k => ∀ u < 8, (s.voice u).holder = .signal k → u = v
  /-- R115, R118, R122, R132, R135: a signal holds a voice exactly while it sounds. -/
  signals : ∀ k : AlarmKind, (∃ v < 8, (s.voice v).holder = .signal k) ↔ Sounds s k
  /-- R184: the demand of every amp group is the one its zones have. -/
  demands : ∀ g < 16, (s.amp g).demand = hasDemand s g
  /-- R71, R72, R74: every LOADED zone stands in its layer mode, with its targets. -/
  layers : ∀ z < 96, ∀ n ∈ s.zone z, refreshZone s z n = n
  /-- R179: a zone that the window in progress has not marked stands in NORMAL. -/
  marks : ∀ w ∈ s.ambient.scan.window, ∀ t ∈ w.zones, t.2 = false → ∀ n ∈ s.zone t.1, n.mode = .normal

/-- R170: only a STRETCH line's timer runs, only a LATCH line is latched and is then HIGH, and one whose source has risen in the frame
period at hand is latched. -/
def LineRules (l : Line) : Prop :=
  (l.width ≠ .stretch → l.timer = 0) ∧ (l.latched = true → l.width = .latch ∧ l.level = true) ∧ (l.rose = true → l.latched = true)

/-- R162, R163, R166, R167, R168, R170: HOLD is in force exactly while a HOLD gate line is HIGH, a THEATRE zone alone is held and
exactly while the show-stop latch is set, no auto-follow timer runs under the latch, a FADING engine has a moving entry to watch, the
latch is set from a STOP edge to the end of its frame period, and every status line keeps its rules. -/
def ShowInv (s : State) : Prop :=
  s.showCtl.hold = s.showCtl.gates.any (fun g => g.mode == .hold && g.level) ∧
  (∀ o ∈ s.zones, ∀ zn ∈ o, zn.held = (zn.kind == .theatre && s.showCtl.showStop)) ∧
  (s.showCtl.showStop = true → s.showCtl.autoFollow = none) ∧
  (s.showCtl.engine = .fading → watchedMoving s = true) ∧ (s.showCtl.engine ≠ .idle → s.showCtl.current.isSome = true) ∧
  (s.showCtl.stopRose = true → s.showCtl.showStop = true) ∧ ∀ l ∈ s.showCtl.lines, LineRules l

/-- R183, R185 to R188: an amp group has a fault reason exactly in FAULT, a wake timer exactly in WAKING, a residency only without
demand in an idle state, at most 7 early wakes; and outside reset its high FAULT input holds it in FAULT. -/
def AmpRules (resetLow : Bool) (a : Amp) : Prop :=
  (a.reason.isSome = true ↔ a.state = .fault) ∧ (a.wakeTimer.isSome = true ↔ a.state = .waking) ∧
  (a.residency.isSome = true → a.demand = false ∧ (idleDepth a.state).isSome = true) ∧ a.early ≤ 7 ∧
  (a.faultIn = true → resetLow = false → a.state = .fault ∧ a.reason = some .ampFault)

/-- R183, R191: every amp group keeps its rules, and the policy is one of four. -/
def AmpInv (s : State) : Prop := s.power.policy ≤ 3 ∧ ∀ a ∈ s.power.groups, AmpRules s.pins.resetLow a

/-! What an event leaves -/

/-- R103, Table 2-3: exactly these CLAIM-NOTICEs of claim d join the queue of its origin port, for its origin node, in an event that
leaves t with room in that queue, so that none was discarded. -/
def ClaimNoticed (s t : State) (d : Nat) (e : Claim) (payloads : List (List Byte)) : Prop :=
  e.originPort < 6 → (t.port e.originPort).egress.length < 8 →
    ((t.port e.originPort).egress.drop (s.port e.originPort).egress.length).filter
      (fun x => x.kind == 129 && x.payload.head? == some (byteOf d)) = payloads.map (fun l =>
        { dst := byteOf e.origin, src := byteOf s.node.id, kind := 129, tag := 0, len := 5, status := 0,
          payload := l ++ List.replicate 21 0 })

/-- R103, Table 2-3: what is reported of claim d, that stood as e, by an event that leaves t: its end with the reason, its new state, or
nothing where its state stands (log entries 7, 15, 37 and 38). -/
def ClaimReported (reason : Nat) (s t : State) (d : Nat) (e : Claim) : Prop :=
  ClaimNoticed s t d e (match t.claim d with
    | none => [[byteOf d, 5, byteOf reason, 0, if e.chimeSkipped = true ∨ e.state = .chiming then 1 else 0]]
    | some f =>
      if f.state = e.state then []
      else [[byteOf d, (match f.state with
          | .queued => 0
          | .waking => 1
          | .chiming => 2
          | .live => 3
          | .suspended => 4), 255, byteOf (f.targets.countP (fun x => x.2 == .audible)), byteOf f.chimeSkipped.toNat]])

/-- R114, R115, R132: the voice of a signal that goes on sounding, under the cadence it had, stands as it stood: cadence, step,
repetition, phase, timer, passes, oscillator phase and sample. -/
def SignalsGoOn (s t : State) : Prop :=
  ∀ v < 8, ∀ k, (s.voice v).holder = .signal k → Sounds t k → (t.signal k).cadence = (s.signal k).cadence → t.voice v = s.voice v

/-- R89 to R96, R103, R147 to R149: an event in a settled state (`Settled`) opens no claim and leaves every claim where its heads and the
readiness of its zones take it (`Passed`, log entry 33), each change reported, an end by DROP with the reason PREEMPTED; it leaves a
settled state, the talkers where the calling counts take them, and the voices of the signals that go on sounding as they are. -/
def ClaimsPassed (byAlarm : Bool) (s t : State) : Prop :=
  Settled s → ClaimInv s → Settled t ∧
    (∀ d < 48, (s.claim d = none → t.claim d = none) ∧
      ∀ e, s.claim d = some e → Passed byAlarm t d e ∧ ClaimReported 4 s t d e) ∧
    (TalkInv s → TalkersFollow s t) ∧ SignalsGoOn s t

/-- R179: the window in progress after an event that neither begins nor ends one: some zones have left its set, every mark stays, and a
zone that the event leaves outside NORMAL is marked. -/
def MarksFollow (gone : List Nat) (s t : State) : Prop :=
  t.ambient.scan.window.map Window.zones = s.ambient.scan.window.map (fun w =>
    (w.zones.filter (fun x => !gone.contains x.1)).map (fun x => (x.1, x.2 || (t.zone x.1).any (fun n => n.mode != .normal))))

/-- R130, R131, R133, R167: the applied kind of every LOADED zone follows the resolved kinds and the signal records. A THEATRE zone whose
applied kind becomes FIRE or GENERAL hands the show-stop trigger, and so does one that a LOAD writes under FIRE or GENERAL; nothing else
sets the show-stop latch. Once set it holds every THEATRE zone and stops the auto-follow timer. Claims and talkers follow
(`ClaimsPassed`). -/
def KindsApplied (written : Option Nat) (s t : State) : Prop :=
  (∀ z n, t.zone z = some n → n.applied =
    (t.fireZone n.fireZone).resolved.bind (fun k => if (t.signal k).kinds.has n.kind then some k else none)) ∧
  (t.showCtl.showStop = true ↔ s.showCtl.showStop = true ∨ ∃ z n, t.zone z = some n ∧ n.kind = .theatre ∧
    (n.applied = some .fire ∨ n.applied = some .general) ∧
    (written = some z ∨ ∃ o, s.zone z = some o ∧ o.applied ≠ n.applied)) ∧
  (∀ z o n, written ≠ some z → s.zone z = some o → t.zone z = some n →
    n.held = (o.held || (n.kind == .theatre && t.showCtl.showStop && !s.showCtl.showStop))) ∧
  t.showCtl.autoFollow = (if t.showCtl.showStop && !s.showCtl.showStop then none else s.showCtl.autoFollow) ∧
  t.showCtl.autoCounted = s.showCtl.autoCounted ∧ ClaimsPassed true s t

/-- R127, R129, R131: an event that changed an alarm source leaves every fire zone's resolved kind the highest of its beacon, cell and
contact kinds, and these applied (`KindsApplied`). R33: the report node is sent the notices that came first and then one EVENT-NOTICE of
class ALARM for each fire zone whose resolved kind changed, in rising order (order and bytes by log entries 10 and 19). -/
def AlarmApplied (first : List (List Byte)) (s t : State) : Prop :=
  (∀ f, 1 ≤ f → f ≤ 16 → (t.fireZone f).resolved =
    higher (higher (t.fireZone f).beacon (t.fireZone f).cell) (if t.alarm.contactLatch then some .general else none)) ∧
  KindsApplied none s t ∧
  EventsNoticed s t (first ++
    (((List.range 16).map (· + 1)).filter (fun f => (t.fireZone f).resolved != (s.fireZone f).resolved)).map
      (fun f => [1, byteOf f, byteOf (kindNum (t.fireZone f).resolved)]))

/-- R3, R10, R33, R124, R125: what the leaving of UP by port p leaves: the streams that name the port are selected anew, the loss of a
trunk begins the island hold while the other one is not UP and computes the beacon again while it is, the cell kinds stand, the report
node is sent DOWN, and the alarm sources are resolved and applied (`AlarmApplied`). -/
def PortLost (p : Nat) (s t : State) : Prop :=
  (∀ n, n < 128 → t.stream n =
    if namesPort p (s.stream n) = true then
      { s.stream n with
        state := selectState t (s.stream n).primary (s.stream n).backup,
        sample := if selectState t (s.stream n).primary (s.stream n).backup = .absent then 0 else (s.stream n).sample }
    else s.stream n) ∧
  t.alarm.islandHold = (s.alarm.islandHold || (decide (p < 2) && !t.portUp 0 && !t.portUp 1)) ∧
  (∀ f, 1 ≤ f → f ≤ 16 →
    (t.fireZone f).beacon = (if p < 2 ∧ (t.portUp 0 = true ∨ t.portUp 1 = true) then
      higher (wordKind (if t.portUp 0 then (t.port 0).rxAlarm else none) f) (wordKind (if t.portUp 1 then (t.port 1).rxAlarm else none) f)
      else (s.fireZone f).beacon) ∧
    (t.fireZone f).cell = (s.fireZone f).cell) ∧
  AlarmApplied [[0, byteOf p, 1]] s t

end Sys2Proof.Machine
end

