-- ==== Sys2Proof/WellFormed.lean ====
section
/-! DEFINITION. Which commands can reach the part: each number a request carries fits the bytes R39 gives its field, each list
length fits its count byte, and the converters deliver eight samples. A value outside the field's own range is well formed: the
request is clamped or refused (R31). -/

namespace Sys2Proof

/-- A number fits w bytes. -/
def fits (w n : Nat) : Bool := decide (n < 256 ^ w)

/-- A field that may be none fits w bytes, and is not the number that stands for none. -/
def fitsOpt (w : Nat) (o : Option Nat) : Bool := o.all (fun n => decide (n < 256 ^ w - 1))

/-- A request's source identity and tag are bytes. -/
def ReqHdr.wellFormed (h : ReqHdr) : Bool := fits 1 h.src && fits 1 h.tag

/-- A location's three numbers are bytes. -/
def RawLoc.wellFormed (l : RawLoc) : Bool := fits 1 l.form && fits 1 l.num && fits 1 l.slot

/-- A cadence step's numbers fit their fields. -/
def RawStep.wellFormed (r : RawStep) : Bool :=
  fits 2 r.freq && fits 1 r.duty && fits 2 r.level && fits 2 r.onMs && fits 2 r.offMs && fits 1 r.count

/-- A member's numbers fit their fields. -/
def RawMember.wellFormed (r : RawMember) : Bool :=
  fits 1 r.station && fits 1 r.stream && fits 1 r.bus && fits 2 r.gain && fits 2 r.timeout

/-- A scene entry's numbers fit their fields. -/
def RawEntry.wellFormed (r : RawEntry) : Bool := fits 1 r.bus && fits 1 r.stream && fits 2 r.coef && fits 1 r.mode

/-- A kind mask is a byte; a zone set has its 96 bits by its type. -/
def PageTarget.wellFormed : PageTarget → Bool
  | .zones _ => true
  | .kinds m => fits 1 m

/-- Whether a command can reach the part. -/
def Instr.wellFormed : Instr → Bool
  | .hardwareReset _ => true
  | .frameArrival _ _ => true
  | .lossTimerExpiry _ => true
  | .portDeparture _ => true
  | .localExchange inputs => inputs.length == 8
  | .mixPeriod => true
  | .toneVoiceSample => true
  | .stepTimerExpiry _ => true
  | .contactDebounceComplete _ => true
  | .gateDebounceComplete _ _ => true
  | .ampReadyChange _ _ => true
  | .ampFaultInputChange _ _ => true
  | .timeLimitExpiry _ => true
  | .sourceWatchExpiry _ => true
  | .talkTimerExpiry _ _ => true
  | .autoFollowExpiry => true
  | .stretchTimerExpiry _ => true
  | .scanWindowComplete => true
  | .wakeTimerExpiry _ => true
  | .fullWindow _ => true
  | .idleResidencyThreshold _ => true
  | .loadPort h port lt => h.wellFormed && fits 1 port && fits 1 lt
  | .loadStreamMap h n p b => h.wellFormed && fits 1 n && p.wellFormed && b.wellFormed
  | .loadStreamUnmap h n => h.wellFormed && fits 1 n
  | .loadRoute h n q => h.wellFormed && fits 1 n && fitsOpt 1 q
  | .loadAuth h n m => h.wellFormed && fits 1 n && fits 1 m
  | .setReport h n => h.wellFormed && fitsOpt 1 n
  | .read h t i s => h.wellFormed && fits 1 t && fits 1 i && fits 1 s
  | .clearCountsPort h p => h.wellFormed && fits 1 p
  | .clearCountsBus h b => h.wellFormed && fits 1 b
  | .clearCountsEvery h => h.wellFormed
  | .resetNodeJobs h => h.wellFormed
  | .resetNodeAll h => h.wellFormed
  | .loadOutput h b r d ds =>
    h.wellFormed && fits 1 b && fits 1 r && fits 2 d && fits 1 ds.length && ds.all RawLoc.wellFormed
  | .loadZoneLoad h z k f bs d t o l se am =>
    h.wellFormed && fits 1 z && fits 1 k && fits 1 f && fits 1 bs.length && bs.all (fits 1) && fitsOpt 2 d && fitsOpt 1 t &&
      fitsOpt 2 o && fitsOpt 2 l && fitsOpt 1 se && fitsOpt 1 am
  | .loadZoneUnload h z => h.wellFormed && fits 1 z
  | .cabinLevel h z l => h.wellFormed && fits 1 z && fits 1 l
  | .pageOpen h p src t g _ o c l =>
    h.wellFormed && fits 1 p && fits 1 src && t.wellFormed && fits 1 g && fits 1 o && fitsOpt 1 c && fits 2 l
  | .pageClose h c => h.wellFormed && fits 1 c
  | .loadCadence h n _ r l => h.wellFormed && fits 1 n && fits 1 r && fits 1 l.length && l.all RawStep.wellFormed
  | .loadSignal h s c l d k => h.wellFormed && fits 1 s && fits 1 c && fits 2 l && fits 2 d && fits 1 k
  | .alarmSet h _ k => h.wellFormed && fits 1 k
  | .alarmClearCell h _ => h.wellFormed
  | .alarmClearContact h => h.wellFormed
  | .loadGroup h g _ lim l => h.wellFormed && fits 1 g && fits 1 lim && fits 1 l.length && l.all RawMember.wellFormed
  | .talkKeyOn h g => h.wellFormed && fits 1 g
  | .talkKeyOff h g => h.wellFormed && fits 1 g
  | .loadSceneScope h n _ => h.wellFormed && fits 1 n
  | .loadSceneEntries h n _ l => h.wellFormed && fits 1 n && fits 1 l.length && l.all RawEntry.wellFormed
  | .loadCueLoad h n sc x a nx => h.wellFormed && fits 1 n && fits 1 sc && fits 2 x && fitsOpt 2 a && fitsOpt 1 nx
  | .loadCueUnload h n => h.wellFormed && fits 1 n
  | .loadCueMark h n => h.wellFormed && fitsOpt 1 n
  | .loadLineGate h l d m => h.wellFormed && decide (l ≤ 3) && fits 1 d && fits 1 m
  | .loadLineStatus h l s w t => h.wellFormed && decide (4 ≤ l) && decide (l ≤ 7) && fits 1 s && fits 1 w && fits 1 t
  | .go h => h.wellFormed
  | .goto h n => h.wellFormed && fits 1 n
  | .applyScene h n t => h.wellFormed && fits 1 n && fits 2 t
  | .showClearShowStop h => h.wellFormed
  | .showClearCueMark h => h.wellFormed
  | .showClearLines h => h.wellFormed
  | .loadSensorLoad h n i o l u c s =>
    h.wellFormed && fits 1 n && fits 1 i && decide (-32768 ≤ o) && decide (o ≤ 32767) && fits 3 l && fits 3 u && fits 1 c &&
      fitsOpt 2 s
  | .loadSensorUnload h n => h.wellFormed && fits 1 n
  | .loadCurve h n _ l =>
    h.wellFormed && fits 1 n && fits 1 l.length && l.all (fun p => fits 3 p.1 && fits 2 p.2)
  | .scanStart h f l m => h.wellFormed && fits 1 f && fits 1 l && fits 1 m
  | .scanStop h => h.wellFormed
  | .loadAmp h g m q s o a b t w =>
    h.wellFormed && fits 1 g && fits 1 m && fits 2 q && fits 2 s && fits 2 o && fits 2 a && fits 2 b && fits 1 t && fits 2 w
  | .ampPolicy h d => h.wellFormed && fits 1 d
  | .faultClear h g => h.wellFormed && fits 1 g
  | .resetInputLow => true

end Sys2Proof
end

