-- ==== Sys2Proof/Certificates/Slice0/Obligations.lean ====
section
/-! DEFINITION. The statements for the provers. A request's statement has its conclusion in the form
`exec c s = .next (replyTo h code data m)`: m is the state the request's own effect leaves, and the REPLY of R23 joins the queue of
the arrival port behind every notice of the request; `Only l s t` says that every part of the state outside l stands in t as it
stood in s. -/

open Sys2Proof Sys2Proof.Machine

/-! The machine -/

/-- A step takes the command at the front of the queue and answers what exec answers, the rest of the queue waiting. -/
def Obligations.StepTakesTheFrontCommand : Prop :=
  ∀ (c : Instr) (rest : List Instr) (s : State), s.pending = c :: rest → step s = exec c (s.setPending rest)

/-- The model's choice (log entry 2): with an empty queue a step is one frame period; nothing counts while the reset input is low
(R20). A running loss timer counts one frame period more, and takes its port DOWN when it reaches 16 × (LT + 1) (R3). When the frame
period ends no line and no STOP edge has risen in the one that follows (log entries 43 and 44).
In a frame period that brings no count to its limit every timer and counter counts one and nothing else changes: the loss timers
(R3), the debounce counts (R127, R165), the time limits and source watches (R100, R101), the talk timers (R146), the auto-follow
timer outside HOLD (R163), the stretch timers, which may run out (R170), and the wake timers, window timers and residencies (R185 to
R187). A measuring window that began in the frame period takes its samples from the next one on (R178, log entry 47). An auto-follow timer, a window timer and a residency that an expiry command has had counted in the frame period are passed over,
and their marks cleared (log entry 46). -/
def Obligations.EmptyQueueStepIsOneFramePeriod : Prop :=
  ∀ s : State, s.pending = [] →
    (s.pins.resetLow = true → step s = .next s) ∧
    (∃ t, step s = .next t ∧ t.pending = [] ∧
      (s.pins.resetLow = false → ∀ p n, p < 6 → p < s.ports.length → (s.port p).loss = some n →
        if n + 1 < 16 * ((s.port p).lt + 1) then (t.port p).link = { (s.port p).link with loss := some (n + 1) }
        else (t.port p).state = .down ∧ (t.port p).good = 0 ∧ (t.port p).loss = none) ∧
      (s.pins.resetLow = false → t.showCtl.stopRose = false ∧ (∀ n, (t.line n).rose = false) ∧
        ∀ w ∈ t.ambient.scan.window, w.fresh = false)) ∧
    let ticked : Amp → Amp := fun a =>
      { a with wakeTimer := a.wakeTimer.map (fun n => n - 1), windowCounted := false, residencyCounted := false,
               windowTimer := if a.windowCounted then a.windowTimer else a.windowTimer.map (fun n => n + 1),
               residency := if a.demand = false ∧ a.state ≠ .waking ∧ a.state ≠ .fault ∧ a.residencyCounted = false then
                   a.residency.map (fun n => min 172800000 (n + 1)) else a.residency }
    (s.pins.resetLow = false →
      (∀ q ∈ s.ports, ∀ n ∈ q.loss, n + 1 < 16 * (q.lt + 1)) →
      (s.pins.contactIn = s.alarm.contactClosed ∨ s.alarm.contactCount + 1 < 960) →
      (∀ g ∈ s.showCtl.gates, g.input = g.level ∨ g.count + 1 < g.setting * 48) →
      (s.showCtl.hold = true ∨ ∀ n ∈ s.showCtl.autoFollow, 2 ≤ n) →
      (∀ x ∈ s.tone.voices, x.holder = .free ∨ x.phase = .ended ∨ x.timer ≠ 0) →
      (∀ o ∈ s.claims.table, ∀ cl ∈ o,
        (∀ n ∈ cl.timer, 2 ≤ n) ∧ (streamAvailable s cl.source = true ∨ cl.watch + 1 < 48000)) →
      (∀ g ∈ s.talk.groups, ∀ m ∈ g.members, ∀ n ∈ m.timer, 2 ≤ n) →
      (∀ a ∈ s.power.groups, (∀ n ∈ a.wakeTimer, 2 ≤ n) ∧ (∀ n ∈ a.windowTimer, n + 1 < a.window * 48000) ∧
        ∀ d, idleDepth a.state = some d → idleTarget s.power.policy (ticked a) ≤ d) →
      (∀ w ∈ s.ambient.scan.window, w.elapsed < 4800) →
      step s = .next { s with
        ports := s.ports.map (fun q => { q with loss := q.loss.map (fun n => n + 1) })
        alarm := { s.alarm with
          contactCount := if s.pins.contactIn = s.alarm.contactClosed then 0 else s.alarm.contactCount + 1 }
        claims := { s.claims with table := s.claims.table.map (Option.map (fun cl =>
          { cl with timer := cl.timer.map (fun n => n - 1),
                    watch := if streamAvailable s cl.source = true then 0 else min 48000 (cl.watch + 1) })) }
        talk := { s.talk with groups := s.talk.groups.map (fun g =>
          { g with members := g.members.map (fun m => { m with timer := m.timer.map (fun n => n - 1) }) }) }
        showCtl := { s.showCtl with
          gates := s.showCtl.gates.map (fun g => { g with count := if g.input = g.level then 0 else g.count + 1 })
          autoFollow := if s.showCtl.hold = true ∨ s.showCtl.autoCounted = true then s.showCtl.autoFollow
            else s.showCtl.autoFollow.map (fun n => n - 1)
          autoCounted := false
          stopRose := false
          lines := s.showCtl.lines.map (fun l =>
            { l with timer := l.timer - 1, rose := false,
                     level := if l.timer = 1 then l.level && sourceTrue s l.source else l.level }) }
        ambient := { s.ambient with scan := { s.ambient.scan with
          window := s.ambient.scan.window.map (fun w => { w with fresh := false }) } }
        power := { s.power with groups := s.power.groups.map ticked } })

/-- No command stops the part, and no command touches the queue of the commands that wait. -/
def Obligations.EveryCommandAnswersNextAndKeepsTheQueue : Prop :=
  ∀ (c : Instr) (s : State), ∃ t, exec c s = .next t ∧ t.pending = s.pending

/-! Resets -/

/-- The state after a hardware reset with every strap open, which gives the node identity 0 (log entry 3): the values of R7, R15, R38,
R61, R79, R105, R120, R137, R153, R172, R181 and R192, the FREE values of Table 6-1, the built-in cadences of Table 6-3 and the default
signals of Table 7-1. The levels of the input pins are the model's choice (log entry 4), and so are its own marks, which are clear (log
entries 43, 44 and 46). -/
def Obligations.ResetStateHoldsTheResetValues : Prop :=
  (∀ p < 6, (State.reset.port p).state = .down ∧ (State.reset.port p).good = 0 ∧ (State.reset.port p).loss = none ∧
    (State.reset.port p).lt = 3 ∧ (State.reset.port p).neighbour = none ∧ (State.reset.port p).rxAlarm = none ∧
    (State.reset.port p).crcErrors = 0 ∧ (State.reset.port p).drops = 0 ∧ (State.reset.port p).egress = []) ∧
  (∀ n < 128, State.reset.stream n = { state := .unmapped, primary := none, backup := none, sample := 0 }) ∧
  State.reset.node.id = 0 ∧ State.reset.node.auth = [] ∧ State.reset.node.report = none ∧ (∀ n < 255, State.reset.node.routes[n]? = some none) ∧
  (∀ b < 64, State.reset.bus b =
    { role := .unused, zone := none, dests := [], clips := 0, line := [], output := 0, live := [] }) ∧
  (∀ z < 96, State.reset.zone z = none ∧ State.reset.claimList z = []) ∧ (∀ c < 48, State.reset.claim c = none) ∧
  (∀ v < 8, State.reset.voice v = { holder := .free, cadence := none, step := 0, rep := 1, phase := .ended, timer := 0, passes := 0,
                                    osc := 0, sample := 0 }) ∧
  (State.reset.cadence 0 = { repeats := 0, steps := [⟨800, 50, 16384, 1000, 1000, 7⟩, ⟨800, 50, 16384, 6000, 2000, 1⟩] } ∧
    State.reset.cadence 1 = { repeats := 0, steps := [⟨1000, 50, 16384, 500, 500, 1⟩] } ∧
    State.reset.cadence 2 = { repeats := 0, steps := [⟨600, 50, 16384, 250, 250, 3⟩, ⟨0, 50, 16384, 2000, 0, 1⟩] } ∧
    ∀ n < 32, 3 ≤ n → State.reset.cadence n = { repeats := 0, steps := [] }) ∧
  (State.reset.signal .crewAlert = { cadence := 2, level := 16384, duck := 4096, kinds := ⟨false, false, true, false⟩ } ∧
    State.reset.signal .fire = { cadence := 1, level := 16384, duck := 4096, kinds := ⟨true, true, true, true⟩ } ∧
    State.reset.signal .general = { cadence := 0, level := 16384, duck := 4096, kinds := ⟨true, true, true, true⟩ }) ∧
  (∀ f < 17, 1 ≤ f → State.reset.fireZone f = { beacon := none, cell := none, resolved := none }) ∧
  (State.reset.alarm.contactLatch = false ∧ State.reset.alarm.islandHold = false ∧ State.reset.alarm.fallback = true ∧
    State.reset.alarm.contactClosed = false ∧ State.reset.alarm.contactCount = 0) ∧
  (∀ g < 8, State.reset.group g = { limit := 4, members := [], talkers := [] }) ∧ (∀ n < 128, State.reset.calling n = 0) ∧
  (∀ n < 16, State.reset.scene n = { scope := 0, entries := [] }) ∧ (∀ n < 64, State.reset.cue n = none) ∧
  (State.reset.showCtl.engine = .idle ∧ State.reset.showCtl.current = none ∧ State.reset.showCtl.autoFollow = none ∧
    State.reset.showCtl.cueMark = none ∧ State.reset.showCtl.showStop = false ∧ State.reset.showCtl.cueLatch = false ∧
    State.reset.showCtl.autoCounted = false ∧ State.reset.showCtl.stopRose = false ∧ State.reset.showCtl.hold = false ∧ State.reset.showCtl.watched = 0) ∧
  (∀ n < 4, (State.reset.gate n).setting = 0 ∧ (State.reset.gate n).mode = .off ∧ (State.reset.gate n).level = false ∧
    (State.reset.gate n).count = 0) ∧
  (∀ n < 4, State.reset.line n =
    { source := .off, width := .direct, stretch := 1, level := false, timer := 0, latched := false, rose := false }) ∧
  (∀ n < 8, State.reset.sensor n = none ∧ State.reset.curve n = []) ∧
  (State.reset.ambient.scan.window = none ∧ State.reset.ambient.scan.continuous = false ∧ State.reset.ambient.scan.first = 0 ∧
    State.reset.ambient.scan.last = 7) ∧
  (∀ g < 16, State.reset.amp g = { (State.reset.amp g) with
    state := .off, reason := none, auto := false, quietAfter := 10, standbyAfter := 300, offAfter := 0, wakeStandby := 500,
    wakeOff := 3000, residency := none, wakeTimer := none, early := 0, threshold := 3, window := 60, windowTimer := some 0,
    earlyFlag := false, demand := false, windowCounted := false, residencyCounted := false }) ∧
  State.reset.power.policy = 2 ∧ State.reset.pending = []

/-- R20, R37: HARDWARE_RESET takes the node identity from the straps (255 as 254), starts the fallback feed and gives every block its
reset values; RESET_INPUT_LOW holds every block at them (the node identity and the fallback flag by log entry 6); RESET_NODE_ALL
gives them too, keeping the identity and starting no fallback feed, with no REPLY; the copies of a broadcast join the emptied
queues of the ports that R25 gives from the port states before the request (log entry 26). An amp group is OFF, or in FAULT with
AMP_FAULT where its FAULT input is high at the end of the reset (R192). The model's own marks are clear (log entries 43, 44 and 46).
R20: while the reset input is low no command has an effect, but for the two of the reset input itself and for the levels of the
amplifier inputs, which are pins. -/
def Obligations.ResetsGiveTheResetValues : Prop :=
  ((∀ (straps : BitVec 8) (s : State), ∃ t, exec (.hardwareReset straps) s = .next t ∧ AtResetValues t ∧
      t.node.id = (if straps = 255 then 254 else straps.toNat) ∧ t.alarm.fallback = true ∧
      t.showCtl.gates.map Gate.input = s.showCtl.gates.map Gate.input ∧
      t.power.groups = s.power.groups.map (fun a => ampReset a.readyIn a.faultIn) ∧
      t.pins = { s.pins with resetLow := false, straps := straps } ∧ t.pending = s.pending) ∧
    (∀ s : State, ∃ t, exec .resetInputLow s = .next t ∧ AtResetValues t ∧ t.node.id = s.node.id ∧ t.alarm.fallback = false ∧
      t.showCtl.gates.map Gate.input = s.showCtl.gates.map Gate.input ∧
      t.power.groups = s.power.groups.map (fun a => { ampReset a.readyIn false with faultIn := a.faultIn }) ∧
      t.pins = { s.pins with resetLow := true } ∧ t.pending = s.pending) ∧
    (∀ (h : ReqHdr) (s : State), Admitted h .config s → ∃ m, exec (.resetNodeAll h) s = .next (if h.bcast then
        queueCopies (broadcastPorts s h.port.val) (composeCell 255 h.src 8 h.tag 0 [byteOf 1]) m else m) ∧
      AtResetValues m ∧ m.node.id = s.node.id ∧ m.alarm.fallback = false ∧
      m.showCtl.gates.map Gate.input = s.showCtl.gates.map Gate.input ∧
      m.power.groups = s.power.groups.map (fun a => ampReset a.readyIn a.faultIn) ∧ m.pins = s.pins ∧ m.pending = s.pending)) ∧
  (∀ (c : Instr) (s : State), s.pins.resetLow = true → (∀ b, c ≠ .hardwareReset b) → c ≠ .resetInputLow →
      ∃ t, exec c s = .next t ∧ Only [.ampInputs] s t ∧
        ((∀ g b, c ≠ .ampReadyChange g b) → (∀ g b, c ≠ .ampFaultInputChange g b) → t = s))

/-! Requests -/

/-- R22: a request whose payload is longer than 26 bytes is answered REFUSED-FORMAT, and one whose source does not hold the class of
Table 2-1 is answered REFUSED-AUTHORITY; neither is executed. -/
def Obligations.FormatAndAuthorityAreCheckedFirst : Prop :=
  ∀ (i : Instr) (h : ReqHdr) (kind : Nat) (payload : List Byte) (cls : AuthClass) (s : State),
    requestHeader i = some h → encodeRequest i = some (kind, payload) → requestClass i = some cls → s.pins.resetLow = false →
    (26 < payload.length → exec i s = .next (replyTo h .refusedFormat [] s)) ∧
    (payload.length ≤ 26 → holdsClass s h.src cls = false → exec i s = .next (replyTo h .refusedAuthority [] s))

/-- R27 and R23: a cell joins its port's queue behind the cells in it while that holds fewer than 8, and otherwise is discarded and
counted up to 65,535; nothing else changes. A REPLY is such a cell on the arrival port, and a broadcast has none. -/
def Obligations.QueueTakesEightCellsAndCountsTheRest : Prop :=
  (∀ (p : Nat) (c : Cell) (s : State), p < s.ports.length →
    ((s.port p).egress.length < 8 → (queueCell p c s).port p = { s.port p with egress := (s.port p).egress ++ [c] }) ∧
    (8 ≤ (s.port p).egress.length →
      (queueCell p c s).port p = { s.port p with drops := min 65535 ((s.port p).drops + 1) }) ∧
    (∀ q, q ≠ p → (queueCell p c s).port q = s.port q) ∧ Only [.queues] s (queueCell p c s)) ∧
  (∀ (h : ReqHdr) (code : ReplyCode) (data : List Byte) (s : State), replyTo h code data s =
    if h.bcast then s
    else queueCell h.port.val
      { dst := byteOf h.src, src := byteOf s.node.id, kind := 128, tag := byteOf h.tag, len := byteOf data.length,
        status := byteOf code.num, payload := (data ++ List.replicate 26 0).take 26 } s)

/-- R39, with the numbering and the none values of log entries 14, 17 and 19: every well-formed request is read back from its kind code
and its payload.
R22, R39: of the payloads of a known kind, whatever they hold, those whose length is not the one of their action, form and counts fail
the format check (`FormatFails`); those whose action, form, scope, source, item or line has none of its values are read as such (log entry
17); and every other is read as a well-formed request, whose payload it is but that a flag may be set by any value other than 0. -/
def Obligations.RequestReadsBackFromItsPayload : Prop :=
  (∀ (i : Instr) (h : ReqHdr) (kind : Nat) (payload : List Byte), i.wellFormed = true → requestHeader i = some h →
    encodeRequest i = some (kind, payload) → decodeRequest h kind payload = .command i ∧ isRequestKind kind = true) ∧
  ∀ (h : ReqHdr) (kind : Nat) (p : List Byte), 1 ≤ kind → kind ≤ 32 → h.wellFormed = true →
    (FormatFails kind p → decodeRequest h kind p = .badFormat) ∧
    (¬ FormatFails kind p → choiceUnknown kind p = true → decodeRequest h kind p = .badChoice (choiceClass kind p)) ∧
    (¬ FormatFails kind p → choiceUnknown kind p = false → ∃ i, decodeRequest h kind p = .command i ∧ i.wellFormed = true ∧
      requestHeader i = some h ∧ encodeRequest i = some (kind, flagsAsOne kind p))

/-- R2, R4, R21: a good frame on a port that is UP, or that the frame raises, is handed on: its slots (`beforeCell`), then its cell, then
the alarm word of a trunk (`afterCell`); slots before the cell, and the word only while the cell has left the port UP, by log entry 25. A
cell of kind NONE, and a REPLY or a notice for this part, has no effect.
R21 to R23, R25, R37, R39: a cell of a known kind for this part, and one that is broadcast, is answered REFUSED-FORMAT where its length
is not the one of its fields, REFUSED-AUTHORITY or REFUSED-RANGE where its action, form, scope, source, item or line has none of its values
(log entry 17), and otherwise has the effect of the one command whose payload it holds, a flag of any value other than 0 being set. The
copies of a broadcast are queued on the ports of R25 ahead of its execution (log entry 32), but for an accepted RESET-NODE with scope ALL,
whose copies follow the reset (log entry 26); the bytes of some fields are those of log entries 14 and 19. A cell for this part of a kind
that the part does not know, or with a payload length above 26, is answered REFUSED-FORMAT. -/
def Obligations.FrameRunsTheRequestItCarries : Prop :=
  ∀ (p : Fin 6) (bytes : List Byte) (s : State), s.pins.resetLow = false → frameGood bytes = true →
    (s.port p.val).state = .up ∨ ((s.port p.val).state = .seeking ∧ 7 ≤ (s.port p.val).good) →
    let c := frameCell bytes
    let m := beforeCell p.val bytes s
    let known := 1 ≤ c.kind.toNat ∧ c.kind.toNat ≤ 32
    let answer := 128 ≤ c.kind.toNat ∧ c.kind.toNat ≤ 131
    (c.kind = 0 ∨ (c.dst.toNat = s.node.id ∧ answer) → exec (.frameArrival p bytes) s = .next (afterCell p.val bytes m)) ∧
    (c.kind ≠ 0 → c.dst.toNat = s.node.id → s.node.id ≤ 254 → ¬ answer → ¬ known ∨ 26 < c.len.toNat →
      exec (.frameArrival p bytes) s = .next (afterCell p.val bytes
        (replyTo { port := p, src := c.src.toNat, tag := c.tag.toNat, bcast := false } .refusedFormat [] m))) ∧
    (s.node.id ≤ 254 → known → c.dst.toNat = s.node.id ∨ c.dst = 255 →
      let h : ReqHdr := { port := p, src := c.src.toNat, tag := c.tag.toNat, bcast := c.dst == 255 }
      let kind := c.kind.toNat
      let payload := c.payload.take c.len.toNat
      let spurs := [2, 3, 4, 5].filter (fun q => q != p.val)
      let trunk := if m.portUp 0 then [0] else if m.portUp 1 then [1] else []
      let copied : State → State := fun t =>
        (if h.bcast = false then [] else if p.val < 2 then spurs else trunk ++ spurs).foldl (fun t q => queueCell q c t) t
      (26 < c.len.toNat ∨ FormatFails kind payload →
        exec (.frameArrival p bytes) s = .next (afterCell p.val bytes (replyTo h .refusedFormat [] (copied m)))) ∧
      (c.len.toNat ≤ 26 → ¬ FormatFails kind payload → choiceUnknown kind payload = true →
        exec (.frameArrival p bytes) s = .next (afterCell p.val bytes
          (replyTo h (if holdsClass s h.src (choiceClass kind payload) then .refusedRange else .refusedAuthority) [] (copied m)))) ∧
      (c.len.toNat ≤ 26 → ¬ FormatFails kind payload → choiceUnknown kind payload = false →
        ∃ i, i.wellFormed = true ∧ requestHeader i = some h ∧ encodeRequest i = some (kind, flagsAsOne kind payload) ∧
          (¬ (i = .resetNodeAll h ∧ holdsClass s h.src .config = true) →
            ∃ t, exec i (copied m) = .next t ∧ exec (.frameArrival p bytes) s = .next (afterCell p.val bytes t)) ∧
          (i = .resetNodeAll h → holdsClass s h.src .config = true →
            ∃ t, exec (.resetNodeAll { h with bcast := false }) m = .next t ∧
              exec (.frameArrival p bytes) s = .next (afterCell p.val bytes (copied t)))))

/-- R1, Tables 1-1 and 1-2: a frame the part composes is a good frame of 112 bytes, and is read back with its sender, alarm word,
slots and cell. -/
def Obligations.ComposedFrameIsReadBack : Prop :=
  ∀ (sender : Nat) (mask : BitVec 16) (kind : Nat) (slots : List Sample) (cell : Cell), sender < 256 → kind ≤ 3 →
    slots.length = 24 → (∀ x ∈ slots, -8388608 ≤ x ∧ x ≤ 8388607) → cell.payload.length = 26 →
    let b := frameBytes sender mask kind slots cell
    b.length = 112 ∧ frameGood b = true ∧ frameSender b = sender ∧ frameAlarm b = { mask := mask, kind := kindOfNum kind } ∧
      (∀ k < 24, frameSlot b k = slots.getD k 0) ∧ frameCell b = cell

/-! Chapter 1: ports, frames and streams -/

/-- R2, Table 1-3, R4, R5: a bad frame is counted on an UP port and sets the good count of a SEEKING one to 0; a good frame takes a
DOWN port to SEEKING with count 1, and raises the count of a SEEKING one below 8. Nothing of the frame is handed on. -/
def Obligations.FramesBelowUpStepThePort : Prop :=
  ∀ (p : Fin 6) (bytes : List Byte) (s : State), s.pins.resetLow = false →
    (frameGood bytes = false → exec (.frameArrival p bytes) s = .next (s.modPort p.val (fun q =>
      if q.state = .up then { q with crcErrors := min 65535 (q.crcErrors + 1) }
      else if q.state = .seeking then { q with good := 0 } else q))) ∧
    (frameGood bytes = true →
      (s.port p.val).state = .down ∨ ((s.port p.val).state = .seeking ∧ (s.port p.val).good < 7) →
      exec (.frameArrival p bytes) s = .next (s.modPort p.val (fun q =>
        { q with state := .seeking, good := if q.state = .down then 1 else q.good + 1,
                 neighbour := some (frameSender bytes), loss := some 0 })))

/-- R2, R4, R10, R11: a good frame that finds a port UP, or raises it with the eighth good frame, first as a whole, its cell of kind
NONE, and then in its parts before and behind any cell (`beforeCell`, and `takeAlarmWord` in any state; R4, log entry 25). The port's
sender and timer are taken; on a raise the streams that name the port are selected anew by Table 1-5; then each of the 24 slots
is written to the streams that have selected it. A trunk's alarm word replaces its received word, the beacon kinds follow (R124), the
fire zones are resolved again and applied, each change reported, with the show-stop trigger, the claims and the talkers (`AlarmApplied`;
R33, R129 to R133; log entries 7, 15, 33, 37 and 38), and a raised trunk ends the island hold (R125).
R33: a raise is reported to the report node by one EVENT-NOTICE of class PORT with UP, in front of every other cell of the event (order
and bytes by log entries 10 and 19). -/
def Obligations.GoodFrameIsHandedOn : Prop :=
  let handed : Nat → List Byte → State → State → Prop := fun p bytes s t =>
    (∀ q, q ≠ p → (t.port q).link = (s.port q).link) ∧
    (∀ n, n < 128 → ∃ e, (if (s.port p).state ≠ .up ∧ namesPort p (s.stream n) = true then
          e.state = selectState t (s.stream n).primary (s.stream n).backup ∧ e.primary = (s.stream n).primary ∧
          e.backup = (s.stream n).backup ∧ e.sample = (if e.state = .absent then 0 else (s.stream n).sample)
        else e = s.stream n) ∧
      t.stream n = (match e.selected with
        | some (.slot q k) => if q = p ∧ k < 24 then { e with sample := frameSlot bytes k } else e
        | _ => e)) ∧
    ((s.port p).state ≠ .up → EventNoticed s t [0, byteOf p, 0])
  let word : List (List Byte) → State → State → Prop := fun first s t =>
    (∀ f, 1 ≤ f → f ≤ 16 →
      (t.fireZone f).beacon = higher (wordKind (if t.portUp 0 then (t.port 0).rxAlarm else none) f)
        (wordKind (if t.portUp 1 then (t.port 1).rxAlarm else none) f) ∧
      (t.fireZone f).cell = (s.fireZone f).cell) ∧ AlarmApplied first s t
  (∀ (p : Fin 6) (bytes : List Byte) (s : State), Sized s → s.pins.resetLow = false → frameGood bytes = true →
    (frameCell bytes).kind = 0 →
    (s.port p.val).state = .up ∨ ((s.port p.val).state = .seeking ∧ 7 ≤ (s.port p.val).good) →
    ∃ t, exec (.frameArrival p bytes) s = .next t ∧ handed p.val bytes s t ∧
      (t.port p.val).link = { (s.port p.val).link with
        state := .up, good := if (s.port p.val).state = .up then (s.port p.val).good else 8,
        neighbour := some (frameSender bytes), loss := some 0,
        rxAlarm := if p.val < 2 then some (frameAlarm bytes) else (s.port p.val).rxAlarm } ∧
      (2 ≤ p.val → Only (if (s.port p.val).state = .up then [.links, .streams] else [.links, .streams, .queues, .lines]) s t) ∧
      (p.val < 2 → word (if (s.port p.val).state = .up then [] else [[0, byteOf p.val, 0]]) s t ∧
        t.alarm.islandHold = (if (s.port p.val).state = .up then s.alarm.islandHold else false) ∧
        Only (alarming ++ [Part.links, Part.streams, Part.fireSources, Part.islandHold]) s t)) ∧
  (∀ (p : Nat) (bytes : List Byte) (s : State), Sized s → p < 6 →
    let m := beforeCell p bytes s
    handed p bytes s m ∧
      (m.port p).link = { (s.port p).link with
        state := .up, good := if (s.port p).state = .up then (s.port p).good else 8,
        neighbour := some (frameSender bytes), loss := some 0 } ∧
      m.alarm.islandHold = (if (s.port p).state ≠ .up ∧ p < 2 then false else s.alarm.islandHold) ∧
      Only (if (s.port p).state = .up then [.links, .streams] else [.links, .streams, .queues, .lines, .islandHold]) s m) ∧
  (∀ (p : Nat) (w : AlarmWord) (s : State), Sized s → p < 2 →
    let t := takeAlarmWord p w s
    word [] s t ∧ (t.port p).link = { (s.port p).link with rxAlarm := some w } ∧
      (∀ q, q ≠ p → (t.port q).link = (s.port q).link) ∧ Only (alarming ++ [Part.links, Part.fireSources]) s t)

/-- R3, R10, R124, R125: the expiry of a loss timer that this frame period brings to the loss length (log entry 1) takes its port DOWN.
A port that was UP gives up its alarm word, the streams that name it are selected anew, and where it was a trunk the island hold begins
when the other trunk is not UP, and the beacon is computed again when it is, resolved and applied (`PortLost`). Its leaving UP is
reported to the report node by one EVENT-NOTICE of class PORT with DOWN, in front of those of the changed fire zones and of every other
cell of the event (R33; order and bytes by log entries 10 and 19; claims and their notices by log entries 7, 15, 33, 37 and 38). -/
def Obligations.LossTimerExpiryTakesThePortDown : Prop :=
  ∀ (p : Fin 6) (n : Nat) (s : State), Sized s → s.pins.resetLow = false → (s.port p.val).loss = some n →
    16 * ((s.port p.val).lt + 1) ≤ n + 1 →
    ∃ t, exec (.lossTimerExpiry p) s = .next t ∧
      (t.port p.val).link = { (s.port p.val).link with
        state := .down, good := 0, loss := none,
        rxAlarm := if (s.port p.val).state = .up then none else (s.port p.val).rxAlarm } ∧
      (∀ q, q ≠ p.val → (t.port q).link = (s.port q).link) ∧
      ((s.port p.val).state ≠ .up → Only [.links] s t) ∧
      ((s.port p.val).state = .up → PortLost p.val s t ∧
        Only (alarming ++ [Part.links, Part.streams, Part.islandHold, Part.fireSources]) s t)

/-- R16, R17, R27, R134: a departure sends one frame of the part's identity, its alarm word (zero toward a trunk, toward a spur the
resolved alarm word: the fire zones that have a resolved kind, and the highest of these kinds), 24 slots and the oldest cell of the
queue, which leaves it, or the empty cell (log entry 36). A slot carries the output value of the bus that names it, and 0 where none
does. -/
def Obligations.DepartureSendsOneFrame : Prop :=
  ∀ (p : Fin 6) (s : State), Sized s → s.pins.resetLow = false →
    let num : Option AlarmKind → Nat := fun k => match k with
      | none => 0
      | some .crewAlert => 1
      | some .fire => 2
      | some .general => 3
    ∃ (t : State) (slots : List Sample) (mask : BitVec 16) (kind : Option AlarmKind), exec (.portDeparture p) s = .next t ∧
      t.port p.val = { s.port p.val with
        egress := (s.port p.val).egress.tail,
        sent := frameBytes s.node.id (if p.val < 2 then 0 else mask) (if p.val < 2 then 0 else num kind) slots
          ((s.port p.val).egress.headD emptyCell) } ∧
      (∀ f, 1 ≤ f → f ≤ 16 → mask.getLsbD (f - 1) = (s.fireZone f).resolved.isSome ∧ num (s.fireZone f).resolved ≤ num kind) ∧
      (kind = none ∨ ∃ f, 1 ≤ f ∧ f ≤ 16 ∧ (s.fireZone f).resolved = kind) ∧
      slots.length = 24 ∧
      (∀ k < 24, (∀ b < 64, Dest.slot p.val k ∉ (s.bus b).dests) → slots.getD k 0 = 0) ∧
      (∀ k < 24, ∀ b < 64, Dest.slot p.val k ∈ (s.bus b).dests →
        (∀ c < 64, Dest.slot p.val k ∈ (s.bus c).dests → c = b) → slots.getD k 0 = (s.bus b).output) ∧
      (∀ q, q ≠ p.val → t.port q = s.port q) ∧ Only [.links, .queues] s t

/-- R12, R19, R135, R178: the converters deliver eight samples, which the PRIMARY streams of local inputs take, and the measuring window
sums in the frame periods that follow its beginning (the mark of log entry 47) while it holds fewer than its 4,800 (log entry 42), and
take eight: the output value of the bus that names the local output, or the fallback feed while the fallback flag is set. -/
def Obligations.LocalExchangeTakesAndSendsEightSamples : Prop :=
  ∀ (inputs : List (BitVec 24)) (s : State), Sized s → inputs.length = 8 → s.pins.resetLow = false →
    ∃ t, exec (.localExchange inputs) s = .next t ∧
      t.pins.localIn = inputs.map BitVec.toInt ∧
      (∀ n, n < 128 → t.stream n = (match (s.stream n).state, (s.stream n).primary with
        | .primary, some (.localIn i) => { s.stream n with sample := (inputs.map BitVec.toInt).getD i 0 }
        | _, _ => s.stream n)) ∧
      (∀ j, j < 8 → s.alarm.fallback = false →
        ((∀ b < 64, Dest.localOut j ∉ (s.bus b).dests) → t.pins.localOut.getD j 0 = 0) ∧
        (∀ b < 64, Dest.localOut j ∈ (s.bus b).dests → (∀ c < 64, Dest.localOut j ∈ (s.bus c).dests → c = b) →
          t.pins.localOut.getD j 0 = (s.bus b).output)) ∧
      (∀ j, j < 8 → s.alarm.fallback = true → t.pins.localOut.getD j 0 =
        (match (highestKind s).bind (fun k => (signalVoice s k).map (fun v => (k, v))) with
          | some (k, v) => max (-8388608) (min 8388607 (((s.voice v).sample * ((s.signal k).level : Int) + 8192) / 16384))
          | none => 0)) ∧
      t.ambient.scan.window = s.ambient.scan.window.map (fun w =>
        if w.fresh = false ∧ w.elapsed < 4800 then
          { w with elapsed := w.elapsed + 1, sum := w.sum + ((inputs.map BitVec.toInt).getD w.input 0 - w.offset).natAbs }
        else w) ∧
      (t.pins.contactIn, t.pins.straps, t.pins.resetLow) = (s.pins.contactIn, s.pins.straps, s.pins.resetLow) ∧
      Only [.pins, .streams, .scan] s t

/-- R6: LOAD-PORT writes the setting, at most 15, and takes the port DOWN at once when the frame periods already counted reach the
new loss length. A port that was UP then leaves UP as by its loss timer: streams selected anew (R10), island hold and beacon (R124,
R125), every fire zone resolved and applied, and the notices of R33 (`PortLost`; order and bytes by log entries 10 and 19; claims and
their notices by log entries 7, 15, 33, 37 and 38).
R13, R9: LOAD-STREAM writes both sources, sets the sample to 0 and takes the state of Table 1-5, or unmaps the entry; a stream
above 127, a primary that is no port and slot nor local input, and a backup that is neither absent nor a port and slot are out of
range. -/
def Obligations.PortAndStreamLoadsWriteTheirEntries : Prop :=
  (∀ (h : ReqHdr) (port lt : Nat) (s : State), Sized s → Admitted h .config s →
      if 5 < port then exec (.loadPort h port lt) s = .next (replyTo h .refusedRange [] s)
      else ∃ m, exec (.loadPort h port lt) s = .next (replyTo h .done [] m) ∧
        (∀ q, q ≠ port → (m.port q).link = (s.port q).link) ∧
        ((∀ n ∈ (s.port port).loss, n < 16 * (min 15 lt + 1)) →
          m = s.modPort port (fun q => { q with lt := min 15 lt })) ∧
        (∀ n ∈ (s.port port).loss, 16 * (min 15 lt + 1) ≤ n →
          (m.port port).link = { (s.port port).link with
            lt := min 15 lt, state := .down, good := 0, loss := none,
            rxAlarm := if (s.port port).state = .up then none else (s.port port).rxAlarm } ∧
          ((s.port port).state = .up → PortLost port s m) ∧ ((s.port port).state ≠ .up → Only [.links] s m) ∧
          Only (alarming ++ [Part.links, Part.streams, Part.islandHold, Part.fireSources]) s m)) ∧
  ((∀ (h : ReqHdr) (n : Nat) (a b : RawLoc) (s : State), Admitted h .config s →
      exec (.loadStreamMap h n a b) s =
        if n ≤ 127 ∧ ((a.form = 0 ∧ a.num ≤ 5 ∧ a.slot ≤ 23) ∨ (a.form = 1 ∧ a.num ≤ 7)) ∧
            ((b.form = 0 ∧ b.num ≤ 5 ∧ b.slot ≤ 23) ∨ b.form = 2) then
          .next (replyTo h .done [] (s.setStreams (s.streams.set n
            { state := if a.form = 1 ∨ (s.port a.num).state = .up then .primary
                       else if b.form = 0 ∧ (s.port b.num).state = .up then .backup else .absent,
              primary := some (if a.form = 0 then .slot a.num a.slot else .localIn a.num),
              backup := if b.form = 0 then some (b.num, b.slot) else none,
              sample := 0 })))
        else .next (replyTo h .refusedRange [] s)) ∧
    (∀ (h : ReqHdr) (n : Nat) (s : State), Admitted h .config s →
      exec (.loadStreamUnmap h n) s =
        if n ≤ 127 then .next (replyTo h .done [] (s.setStreams (s.streams.set n
          { state := .unmapped, primary := none, backup := none, sample := 0 })))
        else .next (replyTo h .refusedRange [] s)))

/-! Chapter 2: cells, authority and tables -/

/-- R4, R21, R24, section 2.4: a cell for another node, which a good frame brings on any port that is UP or that it raises, is queued on the
port of the route table, or on the active trunk where the entry is none; a cell without such a port, and one that would leave by its
arrival port, is discarded.
R21, R22, R25: a broadcast of a REPLY, of a notice, of an unknown kind or with a payload length above 26 has no effect here; it goes on from a trunk to the four spurs, and from a
spur to the active trunk and the other spurs, each copy as queueCell queues it. Slots before the cell, and the alarm word of a trunk
behind it, by log entry 25 (`beforeCell`, `afterCell`). -/
def Obligations.CellsForOthersGoOn : Prop :=
  ∀ (p : Fin 6) (bytes : List Byte) (s : State), s.pins.resetLow = false → frameGood bytes = true →
    (s.port p.val).state = .up ∨ ((s.port p.val).state = .seeking ∧ 7 ≤ (s.port p.val).good) → (frameCell bytes).kind ≠ 0 →
    let c := frameCell bytes
    let m := beforeCell p.val bytes s
    let trunk := if m.portUp 0 then some 0 else if m.portUp 1 then some 1 else none
    (c.dst.toNat ≠ s.node.id → c.dst ≠ 255 → exec (.frameArrival p bytes) s = .next (afterCell p.val bytes
      (match (s.node.routes.getD c.dst.toNat none).or trunk with
        | none => m
        | some r => if r = p.val then m else queueCell r c m))) ∧
    (s.node.id ≠ 255 → c.dst = 255 → 32 < c.kind.toNat ∨ 26 < c.len.toNat → exec (.frameArrival p bytes) s = .next (afterCell p.val bytes
      ((if p.val < 2 then [2, 3, 4, 5] else trunk.toList ++ [2, 3, 4, 5].filter (fun q => q != p.val)).foldl
        (fun m q => queueCell q c m) m)))

/-- R26, R34: LOAD-ROUTE and SET-REPORT write one entry of the route table and the report node; a report node equal to the part's own
identity is out of range.
R29: while the authority table is empty every source holds every class; otherwise a source holds the classes of its entry, and
one without an entry holds none.
R30: LOAD-AUTH writes a new identity behind the entries of the table, replaces the class set of one that it holds at its position, or
with an empty set removes its entry, so that each later one moves down; a new identity in a table of 16 entries is answered
REFUSED-FULL. R30 lists no members of a class set: that bit 0 stands for CONFIG, bit 1 for BRIDGE and bit 2 for OPERATOR is the model's
reading (log entry 19, DEDUCED). -/
def Obligations.NodeTablesAreWrittenAndObeyed : Prop :=
  ((∀ (h : ReqHdr) (node : Nat) (port : Option Nat) (s : State), Admitted h .config s →
      exec (.loadRoute h node port) s =
        if node ≤ 254 ∧ ∀ p ∈ port, p ≤ 5 then
          .next (replyTo h .done [] (s.setNode { s.node with routes := s.node.routes.set node port }))
        else .next (replyTo h .refusedRange [] s)) ∧
    (∀ (h : ReqHdr) (node : Option Nat) (s : State), Admitted h .config s →
      exec (.setReport h node) s =
        if ∀ n ∈ node, n ≤ 254 ∧ n ≠ s.node.id then .next (replyTo h .done [] (s.setNode { s.node with report := node }))
        else .next (replyTo h .refusedRange [] s))) ∧
  ((∀ (s : State) (src : Nat) (c : AuthClass), s.node.auth = [] → holdsClass s src c = true) ∧
    (∀ (s : State) (src : Nat) (c : AuthClass), s.node.auth ≠ [] → (∀ e ∈ s.node.auth, e.id ≠ src) → holdsClass s src c = false) ∧
    (∀ (s : State) (e : AuthEntry) (c : AuthClass), (s.node.auth.map (·.id)).Nodup → e ∈ s.node.auth →
      holdsClass s e.id c = (match c with
        | .config => e.config
        | .bridge => e.bridge
        | .operator => e.operator))) ∧
  (∀ (h : ReqHdr) (node classes : Nat) (s : State), Admitted h .bridge s →
      let held := s.node.auth.any (fun e => e.id == node)
      (254 < node ∨ 7 < classes → exec (.loadAuth h node classes) s = .next (replyTo h .refusedRange [] s)) ∧
      (node ≤ 254 → classes ≤ 7 → held = false → classes ≠ 0 → 16 ≤ s.node.auth.length →
        exec (.loadAuth h node classes) s = .next (replyTo h .refusedFull [] s)) ∧
      let entry : AuthEntry :=
        { id := node, config := classes.testBit 0, bridge := classes.testBit 1, operator := classes.testBit 2 }
      (node ≤ 254 → classes ≤ 7 → held = true ∨ classes = 0 ∨ s.node.auth.length < 16 →
        exec (.loadAuth h node classes) s = .next (replyTo h .done [] (s.setNode { s.node with
          auth := if classes = 0 then s.node.auth.filter (fun e => e.id != node)
            else if held then s.node.auth.map (fun e => if e.id = node then entry else e)
            else s.node.auth ++ [entry] }))))

/-- R35: READ returns one segment of a record and changes nothing but the queue of its REPLY. The segments of a record joined are its
fields in order; each holds as many whole fields as fit 22 bytes, so that the first field of the next would not have fit; a table, an
index or a segment that does not exist is out of range.
R35, R39, Table 2-5: the tables and their index ranges, and the fields of each record in the order its rule lists them. The rules leave
the layout of some fields open; there it is the model's, by log entries 15 (none and enumerations), 16 (ports), 18 (zones), 19 (levels
of the lines), 20 (holders), 21 (heard claim), 22 (empty AUTH positions), 23 (unused records), 24 (scan), 37 (set flags), 45 (absent backup) and 39 (the
indications of an amp group). -/
def Obligations.ReadReturnsTheRecordInSegments : Prop :=
  (∀ (h : ReqHdr) (table index segment : Nat) (s : State), Admitted h .config s →
    (∀ fields, readRecord s table index = some fields → ∀ (portion : List Byte), (segments fields)[segment]? = some portion →
      exec (.read h table index segment) s = .next (replyTo h .done
        ([byteOf table, byteOf index, byteOf segment,
          if segment + 1 < (segments fields).length then 1 else 0] ++ portion) s)) ∧
    (readRecord s table index = none → exec (.read h table index segment) s = .next (replyTo h .refusedRange [] s)) ∧
    (∀ fields, readRecord s table index = some fields → (segments fields).length ≤ segment →
      exec (.read h table index segment) s = .next (replyTo h .refusedRange [] s))) ∧
  (∀ (s : State) (table index : Nat) (fields : List (List Byte)), readRecord s table index = some fields →
    (segments fields).flatten = fields.flatten ∧ (∀ g ∈ segments fields, g.length ≤ 22) ∧
    ∃ parts : List (List (List Byte)), parts.flatten = fields ∧ parts.map List.flatten = segments fields ∧
      ∀ k p q, parts[k]? = some p → parts[k + 1]? = some q → ∃ f rest, q = f :: rest ∧ 22 < p.flatten.length + f.length) ∧
  (∀ (s : State) (n : Nat),
    let num : Nat → Nat → List Byte := fun w x => (List.range w).reverse.map (fun i => BitVec.ofNat 8 (x / 256 ^ i))
    let opt : Nat → Option Nat → List Byte := fun w o => match o with
      | some x => num w x
      | none => List.replicate w 255
    let flag : Bool → List Byte := fun b => if b then [1] else [0]
    let sample : Int → List Byte := fun x => num 3 (x % 16777216).toNat
    let kind : Option AlarmKind → List Byte := fun o => match o with
      | none => [0]
      | some k => num 1 (k.ctorIdx + 1)
    let place : Dest → List Byte := fun d => match d with
      | .slot p k => [0, BitVec.ofNat 8 p, BitVec.ofNat 8 k]
      | .localOut j => [1, BitVec.ofNat 8 j, 0]
    let zones : (Zone → Bool) → List Byte := fun p => num 1 (s.zones.countP (fun o => o.any p))
    let bits : BitVec 64 → List Nat := fun m => (List.range 64).filter (fun b => m.getLsbD b)
    let is : Nat → List (List Byte) → Prop := fun table fields => readRecord s table n = some fields
    (∀ table, readRecord s table n = none ↔
      ∀ limit, [0, 15, 254, 5, 127, 63, 63, 95, 47, 7, 31, 16, 2, 7, 15, 63, 0, 7, 7, 7, 0, 15][table]? = some limit →
        limit < n ∨ (table = 11 ∧ n = 0)) ∧
    (n = 0 → is 0 [num 1 s.node.id, opt 1 s.node.report, num 1 s.node.auth.length,
      opt 1 (if (s.port 0).state = .up then some 0 else if (s.port 1).state = .up then some 1 else none)]) ∧
    (n ≤ 15 → is 1 (match s.node.auth[n]? with
      | none => [[255], [0]]
      | some e => [num 1 e.id, num 1 (e.config.toNat + 2 * e.bridge.toNat + 4 * e.operator.toNat)])) ∧
    (n ≤ 254 → is 2 [opt 1 (s.node.routes.getD n none)]) ∧
    (n ≤ 5 → let q := s.port n
      is 3 [num 1 q.state.ctorIdx, num 1 q.good, num 1 q.lt, opt 2 q.neighbour,
        (match q.rxAlarm with
          | none => [255, 255, 255]
          | some w => num 2 w.mask.toNat ++ kind w.kind),
        num 2 q.crcErrors, num 2 q.drops, num 1 q.egress.length]) ∧
    (n ≤ 127 → let e := s.stream n
      is 4 (if e.state = .unmapped then [[0], [0, 0, 0], [0, 0, 0], [0, 0, 0]]
        else [num 1 e.state.ctorIdx,
          (match e.primary with
            | none => [2, 0, 0]
            | some (.slot p k) => place (.slot p k)
            | some (.localIn i) => place (.localOut i)),
          (match e.backup with
            | none => [2, 0, 0]
            | some (p, k) => place (.slot p k)), sample e.sample])) ∧
    (n ≤ 63 → let b := s.bus n
      is 5 (if b.role = .unused then [[0], [0], [0, 0], [0, 0], [0], [0, 0], [0, 0, 0]]
        else [num 1 b.role.ctorIdx, opt 1 b.zone, num 2 b.line.length,
            num 2 ((s.buses.take n).map (fun c => c.line.length)).sum, num 1 b.dests.length] ++
          b.dests.map place ++ [num 2 b.clips, sample b.output])) ∧
    (n ≤ 63 → let l := if (s.bus n).role = .zone then (s.bus n).live else []
      is 6 (num 1 l.length :: l.map (fun x => num 1 x.stream ++ num 2 x.cur ++ num 2 x.target ++ num 1 x.mode.ctorIdx ++
        opt 2 x.step ++ opt 2 x.pending ++ num 2 x.wait ++ flag x.retiring))) ∧
    (n ≤ 95 → (s.zone n = none → is 7 ([1, 1, 1, 1, 2, 1, 2, 2, 1, 1, 1, 2, 1, 1, 1, 1, 1, 2, 2, 2, 2, 2, 2, 2].map
        (fun w => List.replicate w 0))) ∧
      ∀ z, s.zone n = some z → is 7 ([[1], num 1 z.kind.ctorIdx, num 1 z.fireZone, num 1 z.buses.length] ++
        z.buses.map (num 1) ++ [num 2 z.duck, num 1 z.threshold, num 2 z.override, num 2 z.layerStep, opt 1 z.sensor,
          opt 1 z.amp, num 1 z.cabinLevel,
          num 2 (if z.kind = .cabin then
            [0, 130, 184, 260, 367, 518, 732, 1034, 1460, 2062, 2913, 4115, 5813, 8211, 11599, 16384].getD z.cabinLevel 16384
            else 16384), num 1 z.mode.ctorIdx, flag z.held, kind z.applied] ++
        (match heardOf s n with
          | none => [[255], [0]]
          | some (.chiming c _) => [num 1 c, [0]]
          | some (.audible c _) => [num 1 c, [1]]) ++
        [num 2 z.compCur, num 2 z.kp, num 2 z.kpTarget, num 2 z.kv, num 2 z.kvTarget, num 2 z.ka, num 2 z.kaTarget])) ∧
    (n ≤ 47 → (s.claim n = none → is 8 ([1, 1, 1, 1, 1, 1, 1, 1, 1, 1, 2, 4, 2, 1, 1, 1, 1, 1].map
        (fun w => List.replicate w 0))) ∧
      ∀ c, s.claim n = some c → is 8 ([num 1 (c.state.ctorIdx + 1), num 1 c.origin, num 1 c.originPort, num 1 c.priority,
          num 1 c.source, num 1 c.rank, flag c.all, flag c.wait, flag c.drop, opt 1 c.chime, num 2 c.limit, opt 4 c.timer,
          num 2 c.watch, flag c.started, flag c.chimeSkipped, opt 1 c.voice,
          num 1 (c.targets.countP (fun t => t.2 == .audible)), num 1 c.targets.length] ++
        c.targets.map (fun t => num 1 t.1 ++ num 1 t.2.ctorIdx))) ∧
    (n ≤ 7 → let v := s.voice n
      is 9 (if v.holder = .free then [1, 1, 1, 1, 1, 3, 1, 3, 3].map (fun w => List.replicate w 0)
        else [(match v.holder with
            | .free => [0]
            | .signal k => kind (some k)
            | .claim c => num 1 (4 + c)), opt 1 v.cadence, num 1 v.step, num 1 v.rep, num 1 v.phase.ctorIdx, num 3 v.timer,
          num 1 v.passes, num 3 v.osc, sample v.sample])) ∧
    (n ≤ 31 → let c := s.cadence n
      is 10 (if c.steps = [] then [[0], [0], [0]]
        else [flag (decide (n < 3)), num 1 c.repeats, num 1 c.steps.length] ++ c.steps.map (fun st =>
          num 2 st.freq ++ num 1 st.duty ++ num 2 st.level ++ num 2 st.onMs ++ num 2 st.offMs ++ num 1 st.count))) ∧
    (1 ≤ n → n ≤ 16 → let f := s.fireZone n
      is 11 [num 1 n, kind f.beacon, flag s.alarm.islandHold, kind f.cell,
        kind (if s.alarm.contactLatch then some .general else none), kind f.resolved,
        zones (fun z => z.fireZone == n && z.applied.isSome), flag s.alarm.contactClosed, flag s.alarm.contactLatch,
        flag s.alarm.fallback]) ∧
    (∀ k : AlarmKind, n = k.ctorIdx → let r := s.signal k
      is 12 [num 1 r.cadence, num 2 r.level, num 2 r.duck,
        num 1 (r.kinds.cabin.toNat + 2 * r.kinds.publicRoom.toNat + 4 * r.kinds.crew.toNat + 8 * r.kinds.theatre.toNat),
        opt 1 ((List.range 8).find? (fun v => (s.voice v).holder == .signal k)),
        flag (s.alarm.fallback && (s.alarm.fire.map (fun f => (f.resolved.map (fun j => j.ctorIdx + 1)).getD 0)).foldl max 0 == n + 1),
        num 1 ((List.range 96).countP (fun z => (s.zone z).any (fun m => m.applied == some k)))]) ∧
    (n ≤ 7 → let g := s.group n
      is 13 (if g.members = [] then [[0], [0], [0]]
        else [num 1 g.limit, num 1 g.members.length, num 1 g.talkers.length] ++ g.talkers.map (num 1) ++
        g.members.map (fun m => num 1 m.station ++ num 1 m.stream ++ num 1 m.bus ++ num 2 m.gain ++ flag m.prio ++
          flag m.latching ++ num 2 m.timeout ++ num 1 m.state.ctorIdx ++ opt 4 m.timer) ++
        g.members.map (fun m => flag (decide (0 < s.calling m.stream))))) ∧
    (n ≤ 15 → let sc := s.scene n
      is 14 (num 1 (bits sc.scope).length :: (bits sc.scope).map (num 1) ++ [num 2 sc.entries.length] ++
        sc.entries.map (fun e => num 1 e.bus ++ num 1 e.stream ++ num 2 e.coef ++ num 1 e.mode.ctorIdx) ++
        [num 2 (2048 - (s.showCtl.scenes.map (fun c => c.entries.length)).sum)])) ∧
    (n ≤ 63 → is 15 (match s.cue n with
      | none => [[0], [0], [0, 0], [0, 0], [0]]
      | some c => [[1], num 1 c.scene, num 2 c.crossfade, opt 2 c.autoFollow, opt 1 c.next])) ∧
    (n = 0 → let c := s.showCtl
      is 16 ([num 1 c.engine.ctorIdx, opt 1 c.current, num 1 (bits c.watched).length] ++ (bits c.watched).map (num 1) ++
        [opt 3 c.autoFollow, opt 1 c.cueMark, flag c.cueLatch, flag c.showStop, flag c.hold,
         flag (s.zones.any (fun o => o.any (fun z => z.kind == .theatre && (z.applied == some .fire || z.applied == some .general))))])) ∧
    (n ≤ 3 → let g := s.gate n
      is 17 [num 1 ([0, 1, 5, 10, 50].idxOf g.setting), num 1 g.mode.ctorIdx,
        (match g.level with
          | false => [0]
          | true => [1]), num 2 g.count]) ∧
    (4 ≤ n → n ≤ 7 → let l := s.line (n - 4)
      is 17 [num 1 l.source.ctorIdx, num 1 l.width.ctorIdx, num 1 ([1, 5, 10, 20, 50, 100, 200, 500].idxOf l.stretch),
        (match l.level with
          | true => [0]
          | false => [1]), num 2 l.timer, flag l.latched]) ∧
    (n ≤ 7 → is 18 (match s.sensor n with
      | none => [1, 1, 2, 3, 3, 1, 2, 3, 1].map (fun w => List.replicate w 0)
      | some x => [num 1 (if x.suspect then 2 else 1), num 1 x.input, num 2 (x.offset % 65536).toNat, num 3 x.low, num 3 x.high,
          num 1 x.curve, num 2 x.compStep, opt 3 x.last, zones (fun z => z.sensor == some n)])) ∧
    (n ≤ 7 → is 19 (num 1 (s.curve n).length :: (s.curve n).map (fun p => num 3 p.1 ++ num 2 p.2))) ∧
    (n = 0 → let c := s.ambient.scan
      is 20 [flag c.window.isSome, flag c.continuous, num 1 c.first, num 1 c.last,
        num 1 (if c.window.isSome then c.sensor else 0), num 2 ((c.window.map (·.elapsed)).getD 0)]) ∧
    (n ≤ 15 → let a := s.amp n
      is 21 [num 1 a.state.ctorIdx, opt 1 (a.reason.map FaultReason.ctorIdx), flag (!a.auto), num 2 a.quietAfter,
        num 2 a.standbyAfter, num 2 a.offAfter, num 2 a.wakeStandby, num 2 a.wakeOff, opt 4 a.residency, opt 3 a.wakeTimer,
        num 1 a.early, num 1 a.threshold, num 2 a.window, opt 4 a.windowTimer, flag a.earlyFlag, flag a.demand,
        flag (decide (a.threshold ≠ 0 ∧ a.threshold ≤ a.early)), flag a.readyIn, flag a.faultIn,
        zones (fun z => z.amp == some n)]))

/-- R36: CLEAR-COUNTS sets the counters of one port, of one bus, or of every port and bus to 0. -/
def Obligations.ClearCountsSetsCountersToZero : Prop :=
  (∀ (h : ReqHdr) (port : Nat) (s : State), Admitted h .config s → exec (.clearCountsPort h port) s =
    if port ≤ 5 then .next (replyTo h .done [] (s.modPort port (fun q => { q with crcErrors := 0, drops := 0 })))
    else .next (replyTo h .refusedRange [] s)) ∧
  (∀ (h : ReqHdr) (bus : Nat) (s : State), Admitted h .config s → exec (.clearCountsBus h bus) s =
    if bus ≤ 63 then .next (replyTo h .done [] (s.modBus bus (fun b => { b with clips := 0 })))
    else .next (replyTo h .refusedRange [] s)) ∧
  (∀ (h : ReqHdr) (s : State), Admitted h .config s → ∃ m, exec (.clearCountsEvery h) s = .next (replyTo h .done [] m) ∧
    m.ports = s.ports.map (fun q => { q with crcErrors := 0, drops := 0 }) ∧
    m.buses = s.buses.map (fun b => { b with clips := 0 }) ∧ Only [.links, .queues, .busOutputs] s m)

/-- R37, R48, R62, R106, R154, R173, R177: RESET-NODE with scope JOBS ends every claim, releases every talker, completes the fades of
every ZONE bus (a pending coefficient is taken, a RAMP entry stands on its target, the RETIRING entries go and all others stay), stops
the scan and makes the cue engine IDLE, with no watched scope and the current cue kept; the loaded tables stand.
R32, R102, R103, R106, R150, R154: every member that is not IDLE is sent a TALK-NOTICE with DROPPED, in rising order of group and member,
and the origin of every claim a CLAIM-NOTICE with ENDED and the reason RESET on its origin port, in rising order of claim (order and
bytes by log entries 7, 11, 15, 19 and 37; a chime that the ending cuts short sets the flag, log entry 38).
R121: in a settled state (`Settled`) the voices that alarm signals hold stand as they stood, and every other voice is FREE. -/
def Obligations.ResetNodeJobsEndsWhatRuns : Prop :=
  ∀ (h : ReqHdr) (s : State), Sized s → Admitted h .config s →
    ∃ m, exec (.resetNodeJobs h) s = .next (replyTo h .done [] m) ∧
      (∀ c < 48, m.claim c = none) ∧ (ClaimInv s → ∀ z < 96, m.claimList z = []) ∧
      (∀ g < 8, (m.group g).talkers = [] ∧ ∀ mb ∈ (m.group g).members, mb.state = .idle) ∧
      (∀ b < 64, (m.bus b).live = if (s.bus b).role = .zone then
          ((s.bus b).live.map (fun x => match x.pending with
            | some c => { x with cur := c, pending := none, wait := 0 }
            | none => if x.mode = .ramp then { x with cur := x.target } else x)).filter (fun x => !x.retiring)
        else (s.bus b).live) ∧
      m.ambient.scan.window = none ∧ m.showCtl.engine = .idle ∧ m.showCtl.watched = 0 ∧ m.showCtl.autoFollow = none ∧
      m.showCtl.current = s.showCtl.current ∧
      (∀ p < 6,
        let drops := (List.range 8).flatMap (fun g => ((s.group g).members.zipIdx.filter (fun x => x.1.state != .idle &&
          x.1.station != s.node.id && x.1.station != 255 && leadsTo s x.1.station == some p)).map (fun x =>
            { dst := byteOf x.1.station, src := byteOf s.node.id, kind := 130, tag := 0, len := 5, status := 0,
              payload := [byteOf g, byteOf x.2, 2, 0, 0] ++ List.replicate 21 0 : Cell }))
        let ends := (List.range 48).filterMap (fun c => (s.claim c).bind (fun cl => if cl.originPort = p then
            some { dst := byteOf cl.origin, src := byteOf s.node.id, kind := 129, tag := 0, len := 5, status := 0,
                   payload := [byteOf c, 5, 5, 0, if cl.chimeSkipped = true ∨ cl.state = .chiming then 1 else 0] ++
                     List.replicate 21 0 : Cell }
          else none))
        (s.port p).egress.length + drops.length + ends.length ≤ 8 → (m.port p).egress = (s.port p).egress ++ drops ++ ends) ∧
      (Settled s → Settled m ∧ ∀ v < 8, m.voice v = match (s.voice v).holder with
        | .signal _ => s.voice v
        | _ => voiceFree) ∧
      Only (settling ++ [Part.scan, Part.engine, Part.autoFollow, Part.crosspoints]) s m

/-! Chapter 3: the mix engine -/

/-- R41, R51 to R60: one mix period. Stage 1 takes or keeps waiting each pending coefficient; the program value, the zone's voice and alarm
layers or a member's mix-minus give the composed value (R75, R76: the voice layer takes the chime voice or the source of the heard claim,
the alarm layer the voice of the applied signal, each only in its modes); it is saturated, counted when clamped, and written through the
bus's line; RAMP entries and layer coefficients then move toward their targets, and a RETIRING entry that has come to silence is removed.
While HOLD is in force no entry moves and none is removed. A FADING cue engine becomes SETTLED when no entry it watches moves any more
(R162). -/
def Obligations.MixPeriodComputesEveryBus : Prop :=
  ∀ s : State, Sized s → s.pins.resetLow = false → (∀ b < 64, ∀ x ∈ (s.bus b).live, x.mode = .ramp → x.step.isSome = true) →
    let hold := s.showCtl.hold
    let stream : Nat → Int := fun n =>
      if (s.stream n).state = .primary ∨ (s.stream n).state = .backup then (s.stream n).sample else 0
    let voiceLayer : Nat → Zone → Int := fun z zn =>
      if zn.mode = .normal ∨ zn.mode = .alarm then 0
      else match heardOf s z with
        | some (.chiming _ (some v)) => (s.voice v).sample
        | some (.audible _ n) => stream n
        | _ => 0
    let alarmLayer : Zone → Int := fun zn =>
      if zn.mode = .normal ∨ zn.mode = .voice then 0
      else match zn.applied.bind (fun k => (List.range 8).find? (fun v => (s.voice v).holder == .signal k)) with
        | some v => (s.voice v).sample
        | none => 0
    let taken : XPoint → XPoint := fun x =>
      if x.mode = .zeroCross ∧ x.pending.isSome = true ∧ hold = false then
        (if stream x.stream = 0 ∨ (stream x.stream).sign ≠ x.prev.sign ∨ 480 ≤ x.wait then
          { x with cur := x.pending.getD 0, pending := none, wait := 0 } else { x with wait := x.wait + 1 })
      else x
    let advanced : XPoint → XPoint := fun x =>
      if x.mode = .ramp ∧ hold = false then { x with cur := moveToward x.cur x.target (x.step.getD 0) } else x
    ∃ t, exec .mixPeriod s = .next t ∧
      (∀ b < 64,
        let bus := s.bus b
        let vp : Int := ((bus.live.map (fun x => stream x.stream * ((taken x).cur : Int))).sum + 8192) / 16384
        let o : Int := match bus.role with
          | .unused => 0
          | .zone => (match bus.zone.bind (fun z => (s.zone z).map (fun zn => (z, zn))) with
            | none => vp
            | some (z, zn) => (vp * zn.kp + voiceLayer z zn * zn.kv +
                alarmLayer zn * zn.ka + 8192) / 16384)
          | .talk => (match memberOfBus s b with
            | none => 0
            | some (g, m) => ((((s.group g).talkers.filter (fun j => j != m)).map (fun j =>
                (((s.group g).members[j]?).map (fun mb => stream mb.stream * (mb.gain : Int))).getD 0)).sum + 8192) / 16384)
        let v := max (-8388608) (min 8388607 o)
        (t.bus b).output = (bus.line ++ [v]).headD 0 ∧ (t.bus b).line = (bus.line ++ [v]).tail ∧
        (t.bus b).clips = (if v = o then bus.clips else min 65535 (bus.clips + 1)) ∧
        (t.bus b).live = (bus.live.map (fun x => advanced { taken x with prev := stream x.stream })).filter
          (fun x => hold || !(x.retiring && x.cur == 0 && x.pending.isNone))) ∧
      (∀ z < 96, (t.zone z).map (fun n => (n.kp, n.kv, n.ka)) = (s.zone z).map (fun n =>
        (moveToward n.kp n.kpTarget n.layerStep, moveToward n.kv n.kvTarget n.layerStep,
         moveToward n.ka n.kaTarget n.layerStep))) ∧
      t.showCtl.engine = (if s.showCtl.engine = .fading ∧ watchedMoving t = false then .settled else s.showCtl.engine) ∧
      t.showCtl.current = s.showCtl.current ∧ t.showCtl.watched = s.showCtl.watched ∧
      Only (settling ++ [Part.busOutputs, Part.crosspoints, Part.layerCoefs, Part.engine]) s t

/-- R58, R159: a RAMP entry under a crossfade of n frame periods stays between where it began and its target, and stands on its target
after n advances. -/
def Obligations.RampReachesItsTarget : Prop :=
  ∀ (x : XPoint) (n k : Nat), x.mode = .ramp → 0 < n →
    x.step = some (max 1 ((distance x.cur x.target + n - 1) / n)) →
    (n ≤ k → (XPoint.advance^[k] x).cur = x.target) ∧
    (x.cur ≤ x.target → x.cur ≤ (XPoint.advance^[k] x).cur ∧ (XPoint.advance^[k] x).cur ≤ x.target) ∧
    (x.target ≤ x.cur → x.target ≤ (XPoint.advance^[k] x).cur ∧ (XPoint.advance^[k] x).cur ≤ x.cur)

/-- R42, R43, R45, R135: LOAD-OUTPUT with its checks in order; an accepted one writes role, destinations and delay length, clears the
line when the length or the role changes, removes the zone and the entries unless the bus stays a ZONE bus, and ends the fallback feed
when it names a local output. A FADING cue engine becomes SETTLED when no entry it watches moves any more (R162). -/
def Obligations.LoadOutputWritesTheBus : Prop :=
  ∀ (h : ReqHdr) (bus role delay : Nat) (dests : List RawLoc) (s : State), Sized s → Admitted h .config s → dests.length ≤ 7 →
    (63 < bus ∨ 2 < role ∨ 4 < dests.length ∨ none ∈ dests.map destOf ∨ ¬ (dests.map destOf).Nodup →
      exec (.loadOutput h bus role delay dests) s = .next (replyTo h .refusedRange [] s)) ∧
    (∀ (r : Role) (ds : List Dest), bus ≤ 63 → roleOf role = some r → dests.length ≤ 4 → dests.map destOf = ds.map some → ds.Nodup →
      let len := min 4800 delay
      let inUse := ∃ n < 64, n ≠ bus ∧ ∃ d ∈ ds, d ∈ (s.bus n).dests
      let bound := ((s.bus bus).role = .zone ∧ (s.bus bus).zone ≠ none ∧ r ≠ .zone) ∨
        ((s.bus bus).role = .talk ∧ (∃ g < 8, ∃ m ∈ (s.group g).members, m.bus = bus) ∧ r ≠ .talk)
      let full := (s.bus bus).line.length < len ∧
        32768 < ((List.range 64).map (fun n => if n = bus then len else (s.bus n).line.length)).sum
      (inUse ∨ bound → exec (.loadOutput h bus role delay dests) s = .next (replyTo h .refusedBusy [] s)) ∧
      (¬ inUse → ¬ bound → full → exec (.loadOutput h bus role delay dests) s = .next (replyTo h .refusedNospace [] s)) ∧
      (¬ inUse → ¬ bound → ¬ full → ∃ m, exec (.loadOutput h bus role delay dests) s = .next (replyTo h .done [] m) ∧
        m.bus bus = { s.bus bus with
          role := r, dests := ds,
          zone := if r = .zone ∧ (s.bus bus).role = .zone then (s.bus bus).zone else none,
          live := if r = .zone ∧ (s.bus bus).role = .zone then (s.bus bus).live else [],
          line := if len = (s.bus bus).line.length ∧ r = (s.bus bus).role then (s.bus bus).line else List.replicate len 0 } ∧
        (∀ n, n ≠ bus → m.bus n = s.bus n) ∧
        ((∃ j, Dest.localOut j ∈ ds) → m.alarm.fallback = false) ∧
        ((∀ j, Dest.localOut j ∉ ds) → m.alarm.fallback = s.alarm.fallback) ∧
        m.showCtl.engine = (if s.showCtl.engine = .fading ∧ watchedMoving m = false then .settled else s.showCtl.engine) ∧
        m.showCtl.current = s.showCtl.current ∧ m.showCtl.watched = s.showCtl.watched ∧
        Only (settling ++ [Part.busRecords, Part.busOutputs, Part.crosspoints, Part.fallback, Part.engine]) s m))

/-! Chapter 4: zones -/

/-- R64 to R66: LOAD-ZONE with its checks in order; an accepted LOAD writes the record with its clamps and defaults, gives its buses to
the zone, holds the program layer of a THEATRE zone exactly under the show-stop latch, and stands an unloaded zone's coefficients at
their targets.
R64, R65, R67: LOAD-ZONE with action UNLOAD; an accepted one unloads the zone and frees its buses, and changes nothing where the
zone was UNLOADED.
After either, every bus keeps its role and its destinations, every other zone its settings, cabin level, compensation and coefficients,
and every fire zone its resolved kind; the applied kinds, the show-stop trigger (R133), the claims and the talkers follow
(`KindsApplied`; claims and their notices by log entries 7, 15, 19, 33, 37 and 38).
R66, R67, R179: a zone whose sensor field a LOAD changes, and one that is unloaded, leaves the zone set of the window in progress
(`MarksFollow`). -/
def Obligations.LoadZoneWritesOrFreesTheRecord : Prop :=
  let others : Nat → State → State → Prop := fun zone s m =>
    (∀ b, (m.bus b).role = (s.bus b).role ∧ (m.bus b).dests = (s.bus b).dests) ∧
    (∀ z, z ≠ zone →
      (m.zone z).map (fun n => (Part.same.settings n, n.cabinLevel, Part.same.comp n, Part.same.coefs n)) =
        (s.zone z).map (fun n => (Part.same.settings n, n.cabinLevel, Part.same.comp n, Part.same.coefs n))) ∧
    Only (applying ++ [Part.busRecords, Part.zoneSettings, Part.cabinLevels, Part.comp, Part.layerCoefs]) s m
  (∀ (h : ReqHdr) (zone kind fireZone : Nat) (buses : List Nat) (duck threshold override step sensor amp : Option Nat) (s : State),
      Sized s → Admitted h .config s → buses.length ≤ 12 →
      let c : Instr := .loadZoneLoad h zone kind fireZone buses duck threshold override step sensor amp
      let bad := 95 < zone ∨ 3 < kind ∨ fireZone = 0 ∨ 16 < fireZone ∨ buses = [] ∨ 8 < buses.length ∨ (∃ b ∈ buses, 63 < b) ∨
        ¬ buses.Nodup ∨ (∃ n ∈ sensor, 7 < n) ∨ ∃ g ∈ amp, 15 < g
      (bad → exec c s = .next (replyTo h .refusedRange [] s)) ∧
      (¬ bad → s.claimList zone ≠ [] → exec c s = .next (replyTo h .refusedBusy [] s)) ∧
      (¬ bad → s.claimList zone = [] → (∃ b ∈ buses, (s.bus b).role ≠ .zone) → exec c s = .next (replyTo h .refusedState [] s)) ∧
      (¬ bad → s.claimList zone = [] → (∀ b ∈ buses, (s.bus b).role = .zone) → (∃ b ∈ buses, ∃ z ∈ (s.bus b).zone, z ≠ zone) →
        exec c s = .next (replyTo h .refusedBusy [] s)) ∧
      (¬ bad → s.claimList zone = [] → (∀ b ∈ buses, (s.bus b).role = .zone ∧ ∀ z ∈ (s.bus b).zone, z = zone) →
        ∃ m n, exec c s = .next (replyTo h .done [] m) ∧ m.zone zone = some n ∧
          zoneKindOf kind = some n.kind ∧ n.fireZone = fireZone ∧ n.buses = buses ∧ n.duck = min 16384 (duck.getD 4096) ∧
          n.threshold = min 8 (threshold.getD 5) ∧ n.override = min 32767 (override.getD 16384) ∧
          n.layerStep = max 1 (min 32767 (step.getD 64)) ∧ n.sensor = sensor ∧ n.amp = amp ∧
          n.held = (n.kind == .theatre && m.showCtl.showStop) ∧
          n.applied = ((s.fireZone fireZone).resolved.bind (fun k => if (s.signal k).kinds.has n.kind then some k else none)) ∧
          n.mode = (if n.applied = none then .normal else .alarm) ∧
          n.kpTarget = (if n.held = true ∨ n.applied ≠ none then 0 else cabinCoef n) ∧ n.kvTarget = 0 ∧
          n.kaTarget = ((n.applied.map (fun k => product (if n.sensor = none then 16384 else n.compCur) (s.signal k).level)).getD 0) ∧
          (s.zone zone = none → n.cabinLevel = 15 ∧ n.compCur = 16384 ∧ n.compTarget = 16384 ∧ n.kp = n.kpTarget ∧ n.kv = n.kvTarget ∧
            n.ka = n.kaTarget) ∧
          (∀ o, s.zone zone = some o → n.cabinLevel = (if o.kind = .cabin ∧ n.kind = .cabin then o.cabinLevel else 15) ∧
            n.compCur = (if o.sensor = sensor then o.compCur else 16384) ∧
            n.compTarget = (if o.sensor = sensor then o.compTarget else 16384) ∧ n.kp = o.kp ∧ n.kv = o.kv ∧ n.ka = o.ka) ∧
          (∀ b < 64, (m.bus b).zone = if b ∈ buses then some zone else if (s.bus b).zone = some zone then none else (s.bus b).zone) ∧
          KindsApplied (some zone) s m ∧
          MarksFollow (if (s.zone zone).any (fun o => o.sensor == sensor) then [] else [zone]) s m ∧ others zone s m)) ∧
  (∀ (h : ReqHdr) (zone : Nat) (s : State), Sized s → Admitted h .config s →
      (95 < zone → exec (.loadZoneUnload h zone) s = .next (replyTo h .refusedRange [] s)) ∧
      (zone ≤ 95 → s.claimList zone ≠ [] → exec (.loadZoneUnload h zone) s = .next (replyTo h .refusedBusy [] s)) ∧
      (zone ≤ 95 → s.claimList zone = [] → s.zone zone = none → exec (.loadZoneUnload h zone) s = .next (replyTo h .done [] s)) ∧
      (zone ≤ 95 → s.claimList zone = [] → s.zone zone ≠ none →
        ∃ m, exec (.loadZoneUnload h zone) s = .next (replyTo h .done [] m) ∧ m.zone zone = none ∧
          (∀ b < 64, (m.bus b).zone = if (s.bus b).zone = some zone then none else (s.bus b).zone) ∧
          KindsApplied none s m ∧ MarksFollow [zone] s m ∧ others zone s m))

/-- R69, R68: CABIN-LEVEL sets a CABIN zone's level, at most 15; in a zone under no alarm, not held, that hears no claim, the program
target is then the level's coefficient of Table 4-2. -/
def Obligations.CabinLevelSetsTheLevel : Prop :=
  ∀ (h : ReqHdr) (zone level : Nat) (s : State), Admitted h .operator s →
    (s.zone zone = none → exec (.cabinLevel h zone level) s = .next (replyTo h .refusedRange [] s)) ∧
    (∀ o, s.zone zone = some o → o.kind ≠ .cabin → exec (.cabinLevel h zone level) s = .next (replyTo h .refusedState [] s)) ∧
    (∀ o, s.zone zone = some o → o.kind = .cabin → ∃ m n, exec (.cabinLevel h zone level) s = .next (replyTo h .done [] m) ∧
      m.zone zone = some n ∧ n.cabinLevel = min 15 level ∧
      (o.applied = none → heardOf s zone = none → o.held = false → n.kpTarget =
        [0, 130, 184, 260, 367, 518, 732, 1034, 1460, 2062, 2913, 4115, 5813, 8211, 11599, 16384].getD (min 15 level) 0) ∧
      (∀ z, z ≠ zone → (m.zone z).map Zone.cabinLevel = (s.zone z).map Zone.cabinLevel) ∧ Only [.cabinLevels, .layers] s m)

/-- R71, R72, R74, Tables 4-3 and 4-4: after a mix period every LOADED zone stands in the mode, and with the targets, that its applied
kind and its heard claim give it.
R77, R82, R83: a LOADED zone is ready while its amp group is none, ON or FAULT; the head of a zone is the first claim of its list that
is eligible, which under alarm only a claim of priority 7 is; the heard claim is the head, while the zone is ready and the head is
CHIMING or LIVE. -/
def Obligations.LayersFollowTheirTables : Prop :=
  (∀ (s t : State) (z : Nat) (n : Zone), s.pins.resetLow = false → exec .mixPeriod s = .next t → t.zone z = some n →
    let prio := (heardOf t z).bind (fun hd => (t.claim hd.claim).map (·.priority))
    let prod : Nat → Nat → Nat := fun a b => min 32767 ((a * b + 8192) / 16384)
    let comp := if n.sensor = none then 16384 else n.compCur
    let voiceLevel := if n.threshold ≤ prio.getD 0 then n.override else cabinCoef n
    n.mode = (match n.applied, prio with
      | none, none => .normal
      | none, some _ => .voice
      | some _, none => .alarm
      | some _, some p => if p = 7 then .alarmVoice else .alarm) ∧
    n.kpTarget = (if n.held then 0 else match n.mode with
      | .normal => cabinCoef n
      | .voice => prod n.duck (cabinCoef n)
      | _ => 0) ∧
    n.kvTarget = (match n.mode with
      | .voice => prod comp voiceLevel
      | .alarmVoice => prod comp n.override
      | _ => 0) ∧
    (n.applied = none → n.kaTarget = 0) ∧ ∀ k, n.applied = some k → n.kaTarget = (match n.mode with
      | .alarm => prod comp (t.signal k).level
      | .alarmVoice => prod (prod comp (t.signal k).level) (t.signal k).duck
      | _ => 0)) ∧
  (∀ (s : State) (z : Nat),
    (zoneReady s z = true ↔ ∃ n, s.zone z = some n ∧ ∀ g ∈ n.amp, (s.amp g).state = .on ∨ (s.amp g).state = .fault) ∧
    (∀ c, headOf s z = some c ↔
      let eligible : Nat → Prop := fun d => (∀ n ∈ s.zone z, n.applied = none) ∨ ∃ cl ∈ s.claim d, cl.priority = 7
      ∃ front back, s.claimList z = front ++ c :: back ∧ eligible c ∧ ∀ d ∈ front, ¬ eligible d) ∧
    ∀ h, heardOf s z = some h ↔ ∃ c cl, headOf s z = some c ∧ s.claim c = some cl ∧ zoneReady s z = true ∧
      ((cl.state = .chiming ∧ h = .chiming c cl.voice) ∨ (cl.state = .live ∧ h = .audible c cl.source)))

/-! Chapter 5: claims -/

/-- R84 to R88: PAGE-OPEN with its checks in order; its targets are the zones of its set, each LOADED, or the LOADED zones of its kinds.
An accepted one takes the lowest FREE record and is answered with its identifier; it joins, behind the claims of its priority and above,
each list that has room or whose lowest claim it outranks, in place of the lowest of a full one.
R82, R83, R87, R89 to R95, R147 to R149: in a settled state (`Settled`) the new claim heads the zones that R86 says, and every other
zone keeps its head; a bumped claim that stands in no list any more ends, and every other claim goes where its heads take it
(`Passed`; a claim's net heads by log entry 33), each change reported to its origin, an end by a bump with the reason BUMPED (log entry
7); a claim that ends leaves every list; the state left is settled again, and the talkers follow.
R103, R114, R117: the CLAIM-NOTICE of the only claim in use joins the queue of its arrival port (its bytes by log entries 15, 19 and 37),
in front of every TALK-NOTICE of the event, where R150 lets either be first (log entry 10). The flag of a chime that a suspension cuts
short is set (in `Passed`, log entry 38). Its own chime takes the lowest FREE voice from the first step, or is skipped when none is FREE. -/
def Obligations.PageOpenMakesAClaim : Prop :=
  ∀ (h : ReqHdr) (priority source : Nat) (target : PageTarget) (grantRule : Nat) (wait : Bool) (onPreempt : Nat)
    (chime : Option Nat) (limit : Nat) (s : State), Sized s → ClaimInv s →
    Admitted h (if priority < 7 then .operator else .bridge) s →
    let c : Instr := .pageOpen h priority source target grantRule wait onPreempt chime limit
    let prio := min 7 priority
    let zs := (List.range 96).filter (fun z => match target with
      | .zones set => set.getLsbD z
      | .kinds mask => (s.zone z).any (fun n => mask.testBit (match n.kind with
        | .cabin => 0
        | .publicRoom => 1
        | .crew => 2
        | .theatre => 3)))
    let noTarget := zs = [] ∨ match target with
      | .zones _ => ∃ z ∈ zs, s.zone z = none
      | .kinds mask => 15 < mask
    let bad := noTarget ∨ 127 < source ∨ 1 < grantRule ∨ 1 < onPreempt ∨ ∃ n ∈ chime, 31 < n ∨ (s.cadence n).steps = []
    let pr : Nat → Nat := fun d => match s.claim d with
      | some e => e.priority
      | none => 0
    let alarmed : Nat → Prop := fun z => ∃ n ∈ s.zone z, n.applied ≠ none
    let joins : Nat → Prop := fun z => (s.claimList z).length < 6 ∨ ∃ d, (s.claimList z).getLast? = some d ∧ pr d < prio
    let heads : Nat → Prop := fun z => joins z ∧ (¬ alarmed z ∨ prio = 7) ∧ ∀ d, headOf s z = some d → pr d < prio
    (bad → exec c s = .next (replyTo h .refusedRange [] s)) ∧
    (¬ bad →
      ((∀ k < 48, s.claim k ≠ none) → exec c s = .next (replyTo h .refusedFull [] s)) ∧
      ∀ k < 48, s.claim k = none → (∀ j < k, s.claim j ≠ none) →
        let atOnce := (grantRule = 1 ∧ ∀ z ∈ zs, heads z) ∨ (grantRule = 0 ∧ ∃ z ∈ zs, heads z)
        (wait = false → ¬ atOnce → (∀ z ∈ zs, alarmed z) → prio < 7 → exec c s = .next (replyTo h .refusedAlarm [] s)) ∧
        (wait = false → ¬ atOnce → ((∃ z ∈ zs, ¬ alarmed z) ∨ prio = 7) →
          exec c s = .next (replyTo h .refusedZoneBusy [] s)) ∧
        (wait = true → (∀ z ∈ zs, ¬ joins z) → exec c s = .next (replyTo h .refusedFull [] s)) ∧
        ((wait = true ∧ ∃ z ∈ zs, joins z) ∨ (wait = false ∧ atOnce) →
          ∃ m cl, exec c s = .next (replyTo h .done [byteOf k] m) ∧ m.claim k = some cl ∧
            cl.origin = h.src ∧ cl.originPort = h.port.val ∧ cl.priority = prio ∧ cl.source = source ∧
            cl.targets.map Prod.fst = zs ∧ cl.all = (grantRule == 1) ∧ cl.wait = wait ∧ cl.drop = (onPreempt == 1) ∧
            cl.chime = chime ∧ cl.limit = min 600 limit ∧ cl.watch = 0 ∧
            (∀ z ∈ zs, joins z → k ∈ m.claimList z) ∧ (∀ z, z ∉ zs ∨ ¬ joins z → k ∉ m.claimList z) ∧ Only settling s m ∧
            (Settled s →
              let new : Claim :=
                { state := .queued, origin := h.src, originPort := h.port.val, priority := prio, source := source,
                  targets := zs.map (fun z => (z, .out)), all := grantRule == 1, wait := wait, drop := onPreempt == 1,
                  chime := chime, limit := min 600 limit, started := false, chimeSkipped := false, voice := none,
                  timer := none, watch := 0, rank := 0 }
              Settled m ∧ Passed false m k new ∧
              (∀ z < 96, (z ∈ zs ∧ heads z → headOf m z = some k) ∧ (¬ (z ∈ zs ∧ heads z) → headOf m z = headOf s z)) ∧
              (∀ z < 96,
                (z ∈ zs ∧ joins z → m.claimList z =
                  (((s.claimList z).take 5).takeWhile (fun d => prio ≤ pr d) ++ [k] ++
                    ((s.claimList z).take 5).dropWhile (fun d => prio ≤ pr d)).filter (fun d => (m.claim d).isSome)) ∧
                (¬ (z ∈ zs ∧ joins z) → m.claimList z = (s.claimList z).filter (fun d => (m.claim d).isSome))) ∧
              (∀ d < 48, d ≠ k → (s.claim d = none → m.claim d = none) ∧ ∀ e, s.claim d = some e →
                let stays := ∃ z < 96, d ∈ s.claimList z ∧
                  ¬ (z ∈ zs ∧ joins z ∧ 6 ≤ (s.claimList z).length ∧ (s.claimList z).getLast? = some d)
                (stays → Passed false m d e ∧ ClaimReported 4 s m d e) ∧ (¬ stays → m.claim d = none ∧ ClaimReported 3 s m d e)) ∧
              ((∀ d < 48, s.claim d ≠ none → m.claim d ≠ none) → cl.rank = s.claims.table.countP (fun o => o.isSome)) ∧
              (TalkInv s → TalkersFollow s m) ∧ SignalsGoOn s m ∧
              ((∀ d < 48, s.claim d = none) →
                ((s.port h.port.val).egress.length < 8 → ∃ rest, (m.port h.port.val).egress =
                  (s.port h.port.val).egress ++
                  { dst := byteOf h.src, src := byteOf s.node.id, kind := 129, tag := 0, len := 5, status := 0,
                    payload := [byteOf k, (match cl.state with
                        | .queued => 0
                        | .waking => 1
                        | .chiming => 2
                        | .live => 3
                        | .suspended => 4), 255, byteOf (cl.targets.countP (fun t => t.2 == .audible)),
                      byteOf cl.chimeSkipped.toNat] ++ List.replicate 21 0 } :: rest) ∧
                (cl.state = .chiming → ∃ n v st, chime = some n ∧ v < 8 ∧ (s.voice v).holder = .free ∧
                  (∀ u < v, (s.voice u).holder ≠ .free) ∧ cl.voice = some v ∧ (s.cadence n).steps[0]? = some st ∧
                  m.voice v = { holder := .claim k, cadence := some n, step := 0, rep := 1, phase := .on,
                                timer := st.onMs * 48, passes := 0, osc := 0, sample := (s.voice v).sample }) ∧
                (cl.chimeSkipped = true → ∀ v < 8, (s.voice v).holder ≠ .free)))))

/-- R99 to R102: PAGE-CLOSE from the claim's origin node, and, in the frame period that brings them to their ends (log entry 1), the
time-limit timer and the source watch of an absent source, end the claim: its record becomes FREE and it leaves every list.
R89 to R95, R102, R147 to R149: in a settled state (`Settled`) the lists keep their other claims in order, the acceptance ranks above
fall by 1, every other claim goes where its heads take it (`Passed`, log entry 33), the state left is settled again, and the talkers
follow.
R102, R103, Table 2-3: the ending is reported to the claim's origin node by one CLAIM-NOTICE on its origin port: its identifier, ENDED
(log entry 7), the reason CLOSED, TIME-LIMIT or SOURCE-LOST (log entries 15 and 19), no AUDIBLE zone and the chime-skipped flag, set where
the ending cuts a chime short (Table 5-1, log entry 38) and then sent as 1 (log entry 37). In a settled state each change of another claim
is reported too (`ClaimReported`). -/
def Obligations.ClaimsEndAndAreReported : Prop :=
  let ended : Nat → Nat → Claim → State → State → Prop := fun reason c cl s t =>
    t.claim c = none ∧ (∀ z, c ∉ t.claimList z) ∧ Only settling s t ∧ ClaimReported reason s t c cl ∧
    (Settled s → ClaimInv s →
      Settled t ∧ (∀ z, t.claimList z = (s.claimList z).filter (fun d => d != c)) ∧
      (∀ d, d ≠ c → (s.claim d = none → t.claim d = none) ∧ ∀ e, s.claim d = some e → Passed false t d e ∧
        (d < 48 → ClaimReported 4 s t d e) ∧ ∀ f, t.claim d = some f → f.rank = if cl.rank < e.rank then e.rank - 1 else e.rank) ∧
      (TalkInv s → TalkersFollow s t) ∧ SignalsGoOn s t)
  (∀ (h : ReqHdr) (c : Nat) (s : State), Sized s → Admitted h .operator s →
      ((∀ cl ∈ s.claim c, cl.origin ≠ h.src) → exec (.pageClose h c) s = .next (replyTo h .refusedRange [] s)) ∧
      (∀ cl ∈ s.claim c, cl.origin = h.src → ∃ m, exec (.pageClose h c) s = .next (replyTo h .done [] m) ∧ ended 0 c cl s m)) ∧
    (∀ (c : Fin 48) (s : State), Sized s → s.pins.resetLow = false → ∀ cl ∈ s.claim c.val, ∀ n, cl.timer = some n → n ≤ 1 →
      ∃ t, exec (.timeLimitExpiry c) s = .next t ∧ ended 1 c.val cl s t) ∧
    (∀ (c : Fin 48) (s : State), Sized s → s.pins.resetLow = false → ∀ cl ∈ s.claim c.val, streamAvailable s cl.source = false →
      48000 ≤ cl.watch + 1 → ∃ t, exec (.sourceWatchExpiry c) s = .next t ∧ ended 2 c.val cl s t)

/-! Chapter 6: tone voices and cadences -/

/-- R110 to R112: every held voice produces its sample: plus or minus the amplitude of its step's level while a sounding step is ON, by
the oscillator phase against the duty threshold, and the phase advances by the frequency's increment; otherwise 0 with the phase at
0. Then its step timer falls by 1, unless its phase is ENDED.
The model's choice (log entry 2): a phase that has ended, its timer at 0, and that nothing has ended since, is ended before the
samples; the settling of chimes that end so is all that a sample may then change beside. -/
def Obligations.VoicesProduceTheirSamples : Prop :=
  ∀ s : State, Sized s → s.pins.resetLow = false →
    (∃ t, exec .toneVoiceSample s = .next t ∧ Only settling s t) ∧
    ((∀ v < 8, (s.voice v).holder = .free ∨ (s.voice v).phase = .ended ∨ (s.voice v).timer ≠ 0) →
      ∃ t, exec .toneVoiceSample s = .next t ∧ Only [.voices] s t ∧
      ∀ v < 8,
        let x := s.voice v
        let left := if x.phase = .ended then x.timer else x.timer - 1
        (x.holder = .free → t.voice v = x) ∧
        (x.holder ≠ .free →
          (∀ n st, x.cadence = some n → (s.cadence n).steps[x.step]? = some st → x.phase = .on → st.freq ≠ 0 → st.duty ≠ 0 →
            t.voice v = { x with
              sample := if x.osc < st.duty * 16777216 / 100 then ((st.level * 8388607 / 16384 : Nat) : Int)
                        else -((st.level * 8388607 / 16384 : Nat) : Int),
              osc := (x.osc + (st.freq * 16777216 + 24000) / 48000) % 16777216,
              timer := left }) ∧
          (x.phase ≠ .on → t.voice v = { x with sample := 0, osc := 0, timer := left }) ∧
          (∀ n st, x.cadence = some n → (s.cadence n).steps[x.step]? = some st → st.freq = 0 ∨ st.duty = 0 →
            t.voice v = { x with sample := 0, osc := 0, timer := left })))

/-- R112, R113: the end of a phase of a held voice, its step timer at 0: from ON to OFF where the step has an off time; then to the next
repetition, the next step, or the next pass. An alarm signal whose repeat count is complete stands ENDED; a chime that is complete frees
its voice and makes its claim LIVE, its time-limit timer started (R93, R100). In a settled state (`Settled`) the voice has its FREE
values again and every other voice and claim stands. The end of an ON phase into OFF or ENDED leaves the oscillator phase to the next
sample (log entry 40).
R114 to R118: how a holder starts its voice, which voice an alarm signal that begins to sound is given (the lowest FREE one, else that of
the chime which gives way: lowest priority, then highest acceptance rank), and which a chime; ALARM-SET begins a signal so, where every
claim has priority 7, no signal sounds before it, and one does after it. -/
def Obligations.StepTimerExpiryEndsThePhase : Prop :=
  let begun : State → Holder → Nat → Nat → Voice := fun s holder cad v =>
    { holder := holder, cadence := some cad, step := 0, rep := 1, passes := 0, osc := 0, sample := (s.voice v).sample,
      phase := if (s.cadence cad).steps = [] then .ended else .on,
      timer := ((s.cadence cad).steps[0]?.map (fun st => st.onMs * 48)).getD 0 }
  let lowestFree : State → Nat → Prop := fun s v =>
    v < 8 ∧ (s.voice v).holder = .free ∧ ∀ u < v, (s.voice u).holder ≠ .free
  (∀ (v : Fin 8) (s : State) (n : Nat) (st : CadStep), Sized s → s.pins.resetLow = false → (s.voice v.val).holder ≠ .free →
    (s.voice v.val).phase ≠ .ended → (s.voice v.val).timer = 0 → (s.voice v.val).cadence = some n →
    (s.cadence n).steps[(s.voice v.val).step]? = some st →
    let x := s.voice v.val
    let cad := s.cadence n
    let passes := min 255 (x.passes + 1)
    let offNext := x.phase = .on ∧ 0 < st.offMs
    let lastStep := ¬ offNext ∧ st.count ≤ x.rep ∧ cad.steps.length ≤ x.step + 1
    let complete := (cad.repeats ≠ 0 ∧ cad.repeats ≤ passes) ∨ (cad.repeats = 0 ∧ ∃ c, x.holder = .claim c)
    (offNext → exec (.stepTimerExpiry v) s = .next (s.modVoice v.val (fun x => { x with phase := .off, timer := st.offMs * 48 }))) ∧
    (¬ offNext → x.rep < st.count → exec (.stepTimerExpiry v) s = .next (s.modVoice v.val (fun x =>
      { x with rep := x.rep + 1, phase := .on, timer := st.onMs * 48, osc := 0 }))) ∧
    (∀ nx, ¬ offNext → st.count ≤ x.rep → cad.steps[x.step + 1]? = some nx →
      exec (.stepTimerExpiry v) s = .next (s.modVoice v.val (fun x =>
        { x with step := x.step + 1, rep := 1, phase := .on, timer := nx.onMs * 48, osc := 0 }))) ∧
    (∀ nx, lastStep → ¬ complete → cad.steps[0]? = some nx →
      exec (.stepTimerExpiry v) s = .next (s.modVoice v.val (fun x =>
        { x with step := 0, rep := 1, phase := .on, timer := nx.onMs * 48, osc := 0, passes := passes }))) ∧
    (∀ k, lastStep → complete → x.holder = .signal k →
      exec (.stepTimerExpiry v) s = .next (s.modVoice v.val (fun x => { x with phase := .ended, timer := 0, passes := passes }))) ∧
    (∀ c cl, lastStep → complete → x.holder = .claim c → s.claim c = some cl → headZones s c ≠ [] →
      ∃ t cl', exec (.stepTimerExpiry v) s = .next t ∧ t.claim c = some cl' ∧ cl'.state = .live ∧ cl'.started = true ∧
        cl'.voice = none ∧ (cl.limit ≠ 0 → cl.timer = none → cl'.timer = some (cl.limit * 48000)) ∧ Only settling s t ∧
        (t.voice v.val).holder ≠ .claim c ∧
        (Settled s → Settled t ∧
          t.voice v.val = { holder := .free, cadence := none, step := 0, rep := 1, phase := .ended, timer := 0, passes := 0,
                            osc := 0, sample := 0 } ∧
          (∀ u < 8, u ≠ v.val → t.voice u = s.voice u) ∧ (∀ d, d ≠ c → t.claim d = s.claim d) ∧
          Only [.queues, .claims, .voices, .lines] s t))) ∧
  (∀ (v : Nat) (holder : Holder) (cad : Nat) (s : State), Sized s → v < 8 →
    startVoice v holder cad s = s.modVoice v (fun _ => begun s holder cad v)) ∧
  (∀ (k : AlarmKind) (s : State), Sized s →
    let sounds := (∃ z < 96, ∃ n ∈ s.zone z, n.applied = some k) ∨ (s.alarm.fallback = true ∧ highestKind s = some k)
    let holds := ∃ v < 8, (s.voice v).holder = .signal k
    (holds ∨ ¬ sounds → beginSignal k s = s) ∧
    (¬ holds → sounds →
      (∀ v, lowestFree s v → beginSignal k s = s.modVoice v (fun _ => begun s (.signal k) (s.signal k).cadence v)) ∧
      ((∀ v < 8, (s.voice v).holder ≠ .free) → (∀ v < 8, ∀ c, (s.voice v).holder = .claim c → s.claim c ≠ none) →
        (∃ v < 8, ∃ c, (s.voice v).holder = .claim c) →
        ∃ v c cl, v < 8 ∧ (s.voice v).holder = .claim c ∧ s.claim c = some cl ∧
          (∀ u < 8, ∀ d e, (s.voice u).holder = .claim d → s.claim d = some e →
            cl.priority < e.priority ∨ (cl.priority = e.priority ∧ e.rank ≤ cl.rank)) ∧
          beginSignal k s = (s.modClaim c (fun cl => { cl with
            state := .live, started := true, voice := none, chimeSkipped := true,
            timer := if cl.limit ≠ 0 ∧ cl.timer = none then some (cl.limit * 48000) else cl.timer })).modVoice v
              (fun _ => begun s (.signal k) (s.signal k).cadence v)))) ∧
  (∀ (c cad : Nat) (s : State), Sized s →
    let skipped := s.modClaim c (fun cl => { cl with
      state := .live, started := true, voice := none, chimeSkipped := true,
      timer := if cl.limit ≠ 0 ∧ cl.timer = none then some (cl.limit * 48000) else cl.timer })
    ((s.cadence cad).steps = [] ∨ (∀ v < 8, (s.voice v).holder ≠ .free) → beginChime c cad s = skipped) ∧
    (∀ v, (s.cadence cad).steps ≠ [] → lowestFree s v → beginChime c cad s =
      (s.modClaim c (fun cl => { cl with state := .chiming, started := true, voice := some v })).modVoice v
        (fun _ => begun s (.claim c) cad v))) ∧
  (∀ (h : ReqHdr) (zones : BitVec 16) (kind v : Nat) (k : AlarmKind) (s : State), Sized s → Settled s → Admitted h .bridge s →
    1 ≤ kind → kind ≤ 3 → zones ≠ 0 → (∀ c < 48, ∀ cl ∈ s.claim c, cl.priority = 7) →
    (∀ u < 8, ∀ j, (s.voice u).holder ≠ .signal j) → lowestFree s v →
    ∃ m, exec (.alarmSet h zones kind) s = .next (replyTo h .done [] m) ∧
      ((∃ u < 8, (m.voice u).holder = .signal k) → (∀ j, j ≠ k → ∀ u < 8, (m.voice u).holder ≠ .signal j) →
        m.voice v = begun s (.signal k) (s.signal k).cadence v))

/-- R108, R109: LOAD-CADENCE writes a repeat count and, behind the steps kept, new steps with their values clamped; it refuses a
built-in cadence or a number above 31, a cadence a held voice plays, and more than 12 steps in all. -/
def Obligations.LoadCadenceWritesTheSteps : Prop :=
  ∀ (h : ReqHdr) (n : Nat) (first : Bool) (repeats : Nat) (steps : List RawStep) (s : State), Admitted h .config s →
    steps.length ≤ 2 →
    let kept := if first then [] else (s.cadence n).steps
    let held := ∃ x ∈ s.tone.voices, x.holder ≠ .free ∧ x.cadence = some n
    (n < 3 ∨ 31 < n → exec (.loadCadence h n first repeats steps) s = .next (replyTo h .refusedRange [] s)) ∧
    (3 ≤ n → n ≤ 31 → held → exec (.loadCadence h n first repeats steps) s = .next (replyTo h .refusedBusy [] s)) ∧
    (3 ≤ n → n ≤ 31 → ¬ held → 12 < kept.length + steps.length →
      exec (.loadCadence h n first repeats steps) s = .next (replyTo h .refusedFull [] s)) ∧
    (3 ≤ n → n ≤ 31 → ¬ held → kept.length + steps.length ≤ 12 →
      exec (.loadCadence h n first repeats steps) s = .next (replyTo h .done [] (s.setTone { s.tone with
        cadences := s.tone.cadences.set n
          { repeats := min 255 repeats,
            steps := kept ++ steps.map (fun r =>
              { freq := min 20000 r.freq, duty := min 99 r.duty, level := min 16384 r.level,
                onMs := max 1 (min 65535 r.onMs), offMs := min 65535 r.offMs, count := max 1 (min 255 r.count) }) } })))

/-! Chapter 7: alarms -/

/-- R123, R130, R133: LOAD-SIGNAL writes a signal record, its level and duck clamped, and every LOADED zone's applied kind is determined
from the new set of kinds, with the show-stop trigger; every resolved kind stands (`KindsApplied`, and the parts that stand). In a settled state (`Settled`) a signal
that holds a voice and goes on sounding keeps its voice: as it stands where the cadence is the one it had, and with the new cadence from
its beginning where it is another (R114).
R126 to R131, R133: the events of the part's own alarm sources. Each writes its source, and at the same event every fire zone's
resolved kind is the highest of its beacon, cell and contact kinds, and every LOADED zone's applied kind follows (`AlarmApplied`).
R33, R127: each fire zone whose resolved kind changes is reported to the report node by one EVENT-NOTICE, in rising order and before
every other notice of the event (bytes and order by log entries 10, 15 and 19).
R89 to R96, R147 to R149: in a settled state (`Settled`) every claim goes where its heads take it, an alarm taking the voice it needs
(`Passed`, log entry 33; a chime cut short sets its flag, log entry 38), no claim ends, each change is reported (`ClaimReported`, log
entries 7, 15 and 37), the state left is settled again, and the talkers follow.
R114, R115, R132: in a settled state the voice of a signal that goes on sounding stands as it stood (`SignalsGoOn`).
The contact acts in the frame period that brings its debounce count to 960 (log entry 1). -/
def Obligations.AlarmSourcesAreResolvedAndApplied : Prop :=
  (∀ (h : ReqHdr) (signal cadence level duck kinds : Nat) (s : State), Sized s → Admitted h .bridge s →
      (2 < signal ∨ 31 < cadence ∨ 15 < kinds →
        exec (.loadSignal h signal cadence level duck kinds) s = .next (replyTo h .refusedRange [] s)) ∧
      (signal ≤ 2 → cadence ≤ 31 → kinds ≤ 15 →
        ∃ m, exec (.loadSignal h signal cadence level duck kinds) s = .next (replyTo h .done [] m) ∧
          m.alarm.signals = s.alarm.signals.set signal
            { cadence := cadence, level := min 32767 level, duck := min 16384 duck,
              kinds := { cabin := kinds.testBit 0, publicRoom := kinds.testBit 1, crew := kinds.testBit 2,
                         theatre := kinds.testBit 3 } } ∧
          KindsApplied none s m ∧
          (Settled s → ∀ k v, signal = k.ctorIdx → v < 8 → (s.voice v).holder = .signal k → Sounds m k →
            m.voice v = if cadence = (s.signal k).cadence then s.voice v else
              { holder := .signal k, cadence := some cadence, step := 0, rep := 1, passes := 0, osc := 0,
                sample := (s.voice v).sample, phase := if (s.cadence cadence).steps = [] then .ended else .on,
                timer := ((s.cadence cadence).steps[0]?.map (fun st => st.onMs * 48)).getD 0 }) ∧
          Only (applying ++ [Part.signals]) s m)) ∧
  (∀ s : State, Sized s → s.pins.resetLow = false →
      let settled : State → State → Prop := fun s m =>
        (∀ f, 1 ≤ f → f ≤ 16 → (m.fireZone f).beacon = (s.fireZone f).beacon) ∧ AlarmApplied [] s m
      (∀ h zones kind, Admitted h .bridge s →
        (kind = 0 ∨ 3 < kind ∨ zones = 0 → exec (.alarmSet h zones kind) s = .next (replyTo h .refusedRange [] s)) ∧
        (1 ≤ kind → kind ≤ 3 → zones ≠ 0 → ∃ m, exec (.alarmSet h zones kind) s = .next (replyTo h .done [] m) ∧ settled s m ∧
          (∀ f, 1 ≤ f → f ≤ 16 → (m.fireZone f).cell = if zones.getLsbD (f - 1) then kindOfNum kind else (s.fireZone f).cell) ∧
          m.alarm.contactLatch = s.alarm.contactLatch ∧ Only (alarming ++ [Part.fireSources]) s m)) ∧
      (∀ h zones, Admitted h .bridge s →
        (zones = 0 → exec (.alarmClearCell h zones) s = .next (replyTo h .refusedRange [] s)) ∧
        (zones ≠ 0 → ∃ m, exec (.alarmClearCell h zones) s = .next (replyTo h .done [] m) ∧ settled s m ∧
          (∀ f, 1 ≤ f → f ≤ 16 → (m.fireZone f).cell = if zones.getLsbD (f - 1) then none else (s.fireZone f).cell) ∧
          m.alarm.contactLatch = s.alarm.contactLatch ∧ Only (alarming ++ [Part.fireSources]) s m)) ∧
      (∀ h, Admitted h .bridge s →
        (s.alarm.contactClosed = true → exec (.alarmClearContact h) s = .next (replyTo h .refusedState [] s)) ∧
        (s.alarm.contactClosed = false → ∃ m, exec (.alarmClearContact h) s = .next (replyTo h .done [] m) ∧ settled s m ∧
          m.alarm.contactLatch = false ∧ (∀ f, 1 ≤ f → f ≤ 16 → (m.fireZone f).cell = (s.fireZone f).cell) ∧
          Only (alarming ++ [Part.contact]) s m)) ∧
      (∀ closed, s.alarm.contactClosed ≠ closed → 960 ≤ s.alarm.contactCount + 1 →
        ∃ t, exec (.contactDebounceComplete closed) s = .next t ∧ t.alarm.contactClosed = closed ∧ t.alarm.contactCount = 0 ∧
          (closed = true → t.alarm.contactLatch = true ∧ settled s t ∧ Only (alarming ++ [Part.contact, Part.pins]) s t) ∧
          (closed = false → t.alarm.contactLatch = s.alarm.contactLatch ∧ Only [.contact, .pins] s t) ∧
          (∀ f, 1 ≤ f → f ≤ 16 → (t.fireZone f).cell = (s.fireZone f).cell)))

/-! Chapter 8: intercom -/

/-- R141, R142: LOAD-GROUP with its checks in order; an accepted one releases the group's talkers, keeps or removes its members, and
appends the new ones, IDLE, with gain and timeout clamped. Every member that was not IDLE is sent a TALK-NOTICE with DROPPED, in rising
order (R142, R150; its bytes by log entry 19). -/
def Obligations.LoadGroupWritesTheMembers : Prop :=
  ∀ (h : ReqHdr) (n : Nat) (first : Bool) (limit : Nat) (members : List RawMember) (s : State), Sized s → Admitted h .config s →
    members.length ≤ 2 →
    let c : Instr := .loadGroup h n first limit members
    let kept := if first then [] else (s.group n).members
    let bad := 7 < n ∨ limit = 0 ∨ 4 < limit ∨ ∃ m ∈ members, 254 < m.station ∨ 127 < m.stream ∨ 63 < m.bus
    let twice := ¬ (members.map (·.station)).Nodup ∨ ∃ m ∈ members, ∃ k ∈ kept, k.station = m.station
    let taken := ¬ (members.map (·.bus)).Nodup ∨
      ∃ m ∈ members, ∃ g < 8, (first = false ∨ g ≠ n) ∧ ∃ k ∈ (s.group g).members, k.bus = m.bus
    let wrong := ∃ m ∈ members, (s.bus m.bus).role ≠ .talk
    (bad → exec c s = .next (replyTo h .refusedRange [] s)) ∧
    (¬ bad → 10 < kept.length + members.length → exec c s = .next (replyTo h .refusedFull [] s)) ∧
    (¬ bad → kept.length + members.length ≤ 10 → twice → exec c s = .next (replyTo h .refusedBusy [] s)) ∧
    (¬ bad → kept.length + members.length ≤ 10 → ¬ twice → wrong → exec c s = .next (replyTo h .refusedState [] s)) ∧
    (¬ bad → kept.length + members.length ≤ 10 → ¬ twice → ¬ wrong → taken → exec c s = .next (replyTo h .refusedBusy [] s)) ∧
    (¬ bad → kept.length + members.length ≤ 10 → ¬ twice → ¬ wrong → ¬ taken →
      ∃ m, exec c s = .next (replyTo h .done [] m) ∧ (∀ g, g ≠ n → m.group g = s.group g) ∧
        m.group n = {
          limit := limit, talkers := [],
          members := kept.map (fun k => { k with state := .idle, timer := if k.state = .idle then k.timer else none }) ++
            members.map (fun r => { station := r.station, stream := r.stream, bus := r.bus, gain := min 32767 r.gain,
                                    prio := r.prio, latching := r.latching, timeout := min 600 r.timeout,
                                    state := .idle, timer := none }) } ∧
        TalkNoticed s m n (((s.group n).members.zipIdx.filter (fun x => x.1.state != .idle)).map (fun x => (x.1.station, x.2, 2, 0))) ∧
        Only [.groupRecords, .talkers, .queues] s m)

/-- R143, R144, R146: TALK-KEY ON from the station of member i. An IDLE member is admitted at the end of the talker set where there is
room, and with its priority flag in place of the last talker whose flag is clear; otherwise it is refused. A TALKING member's running
timer is preset again.
R144, R150: the TALK-NOTICEs of the key, ADMITTED, DROPPED and then ADMITTED, or DENIED, each join the queue of the port that leads to
their member's station (their bytes by log entry 19). -/
def Obligations.TalkKeyOnAdmitsTheMember : Prop :=
  ∀ (h : ReqHdr) (n : Nat) (s : State), Sized s → Admitted h .operator s →
    (7 < n ∨ (∀ m ∈ (s.group n).members, m.station ≠ h.src) → exec (.talkKeyOn h n) s = .next (replyTo h .refusedRange [] s)) ∧
    ∀ i mb, n ≤ 7 → (s.group n).members[i]? = some mb → mb.station = h.src →
      (∀ j k, (s.group n).members[j]? = some k → k.station = h.src → i ≤ j) →
      let g := s.group n
      let preset := if mb.latching = true ∧ mb.timeout ≠ 0 then some (mb.timeout * 48000) else none
      (mb.state = .suspended ∨ (mb.state = .idle ∧ 0 < s.calling mb.stream) →
        exec (.talkKeyOn h n) s = .next (replyTo h .refusedState [] s)) ∧
      (mb.state = .talking → exec (.talkKeyOn h n) s = .next (replyTo h .done [] (s.modGroup n (fun g =>
        { g with members := g.members.set i { mb with timer := if mb.timer.isSome then preset else none } })))) ∧
      (mb.state = .idle → s.calling mb.stream = 0 →
        (g.talkers.length < g.limit →
          ∃ m, exec (.talkKeyOn h n) s = .next (replyTo h .done [] m) ∧
            m.group n = { g with talkers := g.talkers ++ [i],
                                 members := g.members.set i { mb with state := .talking, timer := preset } } ∧
            TalkNoticed s m n [(mb.station, i, 0, 1)] ∧ (∀ k, k ≠ n → m.group k = s.group k) ∧ Only [.talkers, .queues] s m) ∧
        (g.limit ≤ g.talkers.length → ∀ front back j d, mb.prio = true → g.talkers = front ++ [j] ++ back → j ∉ front ++ back → j ≠ i →
          (∀ b ∈ back, ∀ k, g.members[b]? = some k → k.prio = true) → g.members[j]? = some d → d.prio = false →
          ∃ m, exec (.talkKeyOn h n) s = .next (replyTo h .done [] m) ∧
            m.group n = { g with talkers := front ++ back ++ [i],
                                 members := (g.members.set j { d with state := .idle, timer := none }).set i
                                   { mb with state := .talking, timer := preset } } ∧
            TalkNoticed s m n [(d.station, j, 2, 0), (mb.station, i, 0, 1)] ∧ (∀ k, k ≠ n → m.group k = s.group k) ∧ Only [.talkers, .queues] s m) ∧
        (g.limit ≤ g.talkers.length → mb.prio = false ∨ (∀ j ∈ g.talkers, ∀ k, g.members[j]? = some k → k.prio = true) →
          ∃ m, exec (.talkKeyOn h n) s = .next (replyTo h .refusedBusy [] m) ∧ TalkNoticed s m n [(mb.station, i, 3, 0)] ∧
            Only [.queues] s m))

/-- R145, R146: TALK-KEY OFF from the station of a member that is not IDLE, and, in the frame period that brings it to its end (log
entry 1), the expiry of a member's talk timer, release the member: IDLE, out of the talker set, its timer stopped. An OFF from an IDLE
member changes nothing.
R150, Table 2-4: the one TALK-NOTICE of the release joins the queue of the port that leads to the member's station: group, member,
RELEASED or DROPPED, and the talkers that remain (its bytes by log entry 19). -/
def Obligations.TalkKeyOffAndTimerReleaseTheMember : Prop :=
  let noticed : Nat → Nat → Byte → Member → State → State → Prop := fun n i code mb s t =>
    ∀ p, mb.station ≠ s.node.id → mb.station ≤ 254 → p < 6 → (s.port p).egress.length < 8 →
      (s.node.routes.getD mb.station none).or
        (if (s.port 0).state = .up then some 0 else if (s.port 1).state = .up then some 1 else none) = some p →
      (t.port p).egress = (s.port p).egress ++
        [{ dst := byteOf mb.station, src := byteOf s.node.id, kind := 130, tag := 0, len := 5, status := 0,
           payload := [byteOf n, byteOf i, code, 0, byteOf (t.group n).talkers.length] ++ List.replicate 21 0 }]
  (∀ (h : ReqHdr) (n : Nat) (s : State), Sized s → Admitted h .operator s →
    (7 < n ∨ (∀ m ∈ (s.group n).members, m.station ≠ h.src) → exec (.talkKeyOff h n) s = .next (replyTo h .refusedRange [] s)) ∧
    ∀ i mb, n ≤ 7 → (s.group n).members[i]? = some mb → mb.station = h.src →
      (∀ j k, (s.group n).members[j]? = some k → k.station = h.src → i ≤ j) →
      (mb.state = .idle → exec (.talkKeyOff h n) s = .next (replyTo h .done [] s)) ∧
      (mb.state ≠ .idle → ∃ m, exec (.talkKeyOff h n) s = .next (replyTo h .done [] m) ∧
        m.group n = { s.group n with
          talkers := (s.group n).talkers.filter (fun j => j != i),
          members := (s.group n).members.set i { mb with state := .idle, timer := none } } ∧
        noticed n i 1 mb s m ∧ (∀ k, k ≠ n → m.group k = s.group k) ∧ Only [.talkers, .queues] s m)) ∧
  (∀ (n : Fin 8) (i : Fin 10) (mb : Member) (left : Nat) (s : State), Sized s → s.pins.resetLow = false →
    (s.group n.val).members[i.val]? = some mb → mb.timer = some left → left ≤ 1 →
    ∃ t, exec (.talkTimerExpiry n i) s = .next t ∧
      t.group n.val = { s.group n.val with
        talkers := (s.group n.val).talkers.filter (fun j => j != i.val),
        members := (s.group n.val).members.set i.val { mb with state := .idle, timer := none } } ∧
      noticed n.val i.val 2 mb s t ∧ (∀ k, k ≠ n.val → t.group k = s.group k) ∧ Only [.talkers, .queues] s t)

/-! Chapter 9: show control -/

/-- R155, R156: LOAD-SCENE with a scope empties the scene; with entries it appends them, coefficients clamped, or with the first flag
replaces the list. An entry out of range or outside the scope, a bus and stream named twice, and more than 16 entries for one bus are
out of range; a pool of 2,048 places that does not suffice is full.
R157: LOAD-CUE loads a cue with its times clamped, unloads one, or sets or clears the cue mark. -/
def Obligations.SceneAndCueLoadsWriteTheirTables : Prop :=
  ((∀ (h : ReqHdr) (n : Nat) (scope : BitVec 64) (s : State), Admitted h .config s → exec (.loadSceneScope h n scope) s =
      if n ≤ 15 then .next (replyTo h .done [] (s.setShow { s.showCtl with
        scenes := s.showCtl.scenes.set n { scope := scope, entries := [] } }))
      else .next (replyTo h .refusedRange [] s)) ∧
    (∀ (h : ReqHdr) (n : Nat) (first : Bool) (entries : List RawEntry) (s : State), Admitted h .config s → entries.length ≤ 4 →
      let sc := s.scene n
      let kept := if first then [] else sc.entries
      let others := (s.showCtl.scenes.map (fun sc => sc.entries.length)).sum - sc.entries.length
      (15 < n ∨ (∃ e ∈ entries, 63 < e.bus ∨ 127 < e.stream ∨ sc.scope.getLsbD e.bus = false ∨ 2 < e.mode) →
        exec (.loadSceneEntries h n first entries) s = .next (replyTo h .refusedRange [] s)) ∧
      (∀ new : List SceneEntry, n ≤ 15 →
        (∀ e ∈ entries, e.bus ≤ 63 ∧ e.stream ≤ 127 ∧ sc.scope.getLsbD e.bus = true) →
        new.map (fun e => (e.bus, e.stream, e.coef)) = entries.map (fun e => (e.bus, e.stream, min 32767 e.coef)) →
        entries.map (fun e => changeModeOf e.mode) = new.map (fun e => some e.mode) →
        let all := kept ++ new
        let fits := (all.map (fun e => (e.bus, e.stream))).Nodup ∧ ∀ e ∈ all, all.countP (fun d => d.bus == e.bus) ≤ 16
        (¬ fits → exec (.loadSceneEntries h n first entries) s = .next (replyTo h .refusedRange [] s)) ∧
        (fits → 2048 < others + kept.length + new.length →
          exec (.loadSceneEntries h n first entries) s = .next (replyTo h .refusedFull [] s)) ∧
        (fits → others + kept.length + new.length ≤ 2048 →
          exec (.loadSceneEntries h n first entries) s = .next (replyTo h .done [] (s.setShow { s.showCtl with
            scenes := s.showCtl.scenes.set n { scope := sc.scope, entries := all } })))))) ∧
  ((∀ (h : ReqHdr) (n scene crossfade : Nat) (follow next : Option Nat) (s : State), Admitted h .config s →
      exec (.loadCueLoad h n scene crossfade follow next) s =
        if n ≤ 63 ∧ scene ≤ 15 ∧ ∀ m ∈ next, m ≤ 63 then .next (replyTo h .done [] (s.setShow { s.showCtl with
          cues := s.showCtl.cues.set n (some
            { scene := scene, crossfade := min 60000 crossfade, autoFollow := follow.map (fun d => min 60000 d), next := next }) }))
        else .next (replyTo h .refusedRange [] s)) ∧
    (∀ (h : ReqHdr) (n : Nat) (s : State), Admitted h .config s → exec (.loadCueUnload h n) s =
      if n ≤ 63 then .next (replyTo h .done [] (s.setShow { s.showCtl with cues := s.showCtl.cues.set n none }))
      else .next (replyTo h .refusedRange [] s)) ∧
    (∀ (h : ReqHdr) (n : Option Nat) (s : State), Admitted h .config s → exec (.loadCueMark h n) s =
      if ∀ m ∈ n, m ≤ 63 then .next (replyTo h .done [] (s.setShow { s.showCtl with cueMark := n }))
      else .next (replyTo h .refusedRange [] s)))

/-- R158, R159: a scene applied with a crossfade of T milliseconds first brings each ZONE bus of its scope to rest; then an entry the
scene names takes its coefficient and mode as target, one it does not name is RETIRING toward 0, and a stream named anew enters at 0
behind them, several in the scene's order (log entry 34). With T of 0, and in mode CUT, the target is taken at once; a RAMP moves by the
rounded-up step over 48 T periods; a ZEROCROSS holds its target pending. A step is present exactly in mode RAMP (Table 3-2, log entry
29).
R161: APPLY-SCENE applies a scene with a crossfade time of at most 60,000 ms and leaves the current cue, the auto-follow timer and
the cue-mark latch; the engine becomes SETTLED when it was FADING and nothing it watches moves any more. -/
def Obligations.ApplySceneSetsTheCrosspoints : Prop :=
  (∀ (n time b : Nat) (s : State), Sized s → SceneRules (s.scene n) → b < 64 →
      let sc := s.scene n
      let rest := ((s.bus b).live.map XPoint.complete).filter (fun x => !x.retiring)
      let named : Nat → Option SceneEntry := fun m => sc.entries.find? (fun e => e.bus == b && e.stream == m)
      ((s.bus b).role ≠ .zone ∨ sc.scope.getLsbD b = false → (applyScene n time s).bus b = s.bus b) ∧
      ((s.bus b).role = .zone → sc.scope.getLsbD b = true →
        ∃ l new : List XPoint, ((applyScene n time s).bus b) = { s.bus b with live := l ++ new } ∧
          l.map (·.stream) = rest.map (·.stream) ∧
          new.map (·.stream) = (sc.entries.filter (fun e => e.bus == b && !rest.any (fun x => x.stream == e.stream))).map (·.stream) ∧
          (∀ (i : Nat) (x y : XPoint), rest[i]? = some x → l[i]? = some y →
            let target := ((named x.stream).map (·.coef)).getD 0
            let mode := ((named x.stream).map (·.mode)).getD x.mode
            y.target = target ∧ y.mode = mode ∧ y.prev = x.prev ∧ y.wait = 0 ∧
            (y.retiring = true ↔ named x.stream = none) ∧ (y.step.isSome = true ↔ mode = .ramp) ∧
            (time = 0 ∨ mode = .cut → y.cur = target ∧ y.pending = none) ∧
            (time ≠ 0 → mode = .ramp → y.cur = x.cur ∧ y.pending = none ∧
              y.step = some (max 1 ((distance x.cur target + time * 48 - 1) / (time * 48)))) ∧
            (time ≠ 0 → mode = .zeroCross → y.cur = x.cur ∧ y.pending = some target)) ∧
          (∀ y ∈ new, ∀ e, named y.stream = some e → y.target = e.coef ∧ y.mode = e.mode ∧ y.prev = (s.stream y.stream).sample ∧
            y.retiring = false ∧ y.wait = 0 ∧ (y.step.isSome = true ↔ e.mode = .ramp) ∧
            (time = 0 ∨ e.mode = .cut → y.cur = e.coef ∧ y.pending = none) ∧
            (time ≠ 0 → e.mode = .ramp → y.cur = 0 ∧ y.pending = none ∧
              y.step = some (max 1 ((e.coef + time * 48 - 1) / (time * 48)))) ∧
            (time ≠ 0 → e.mode = .zeroCross → y.cur = 0 ∧ y.pending = some e.coef)))) ∧
  (∀ (h : ReqHdr) (n time : Nat) (s : State), Sized s → Admitted h .operator s →
      (15 < n → exec (.applyScene h n time) s = .next (replyTo h .refusedRange [] s)) ∧
      (n ≤ 15 → ∃ m, exec (.applyScene h n time) s = .next (replyTo h .done [] m) ∧
        m.buses = (applyScene n (min 60000 time) s).buses ∧ m.showCtl.current = s.showCtl.current ∧
        m.showCtl.watched = s.showCtl.watched ∧
        m.showCtl.engine = (if s.showCtl.engine = .fading ∧ watchedMoving m = false then .settled else s.showCtl.engine) ∧
        Only (settling ++ [Part.crosspoints, Part.engine]) s m))

/-- R160 to R164: GO takes the current cue's next cue, or the one numbered above it, or cue 0 when there is none; GOTO takes the cue it
names. A cue taken has its scene applied with its crossfade time, becomes the current cue, presets its auto-follow timer and sets the
cue-mark latch when it is the cue mark; the engine is FADING, or SETTLED at once when nothing it watches moves. The show-stop latch and
an UNLOADED cue refuse it.
R163, R166: in the frame period that brings it to its end (log entry 1) the expiry of the auto-follow timer, outside HOLD, stops the timer
and performs a GO without a reply; a timer that the GO presets counts from the next frame period (log entry 46). Where that GO would be
refused, nothing but the timer changes in a settled state (`Settled`), and nothing but what settling may change in any other. -/
def Obligations.GoGotoAndAutoFollowTakeTheCue : Prop :=
  (∀ (h : ReqHdr) (s : State), Sized s → Admitted h .operator s →
      let taken : Nat → Cue → State → Prop := fun n c m =>
        m.buses = (applyScene c.scene c.crossfade s).buses ∧ m.showCtl.current = some n ∧
        m.showCtl.watched = (s.scene c.scene).scope ∧
        m.showCtl.autoFollow = c.autoFollow.map (fun d => if d = 0 then 1 else d * 48) ∧ m.showCtl.autoCounted = s.showCtl.autoCounted ∧
        (m.showCtl.cueLatch = true ↔ s.showCtl.cueLatch = true ∨ s.showCtl.cueMark = some n) ∧
        m.showCtl.engine = (if watchedMoving m then .fading else .settled) ∧
        Only (settling ++ [Part.crosspoints, Part.engine, Part.autoFollow, Part.cueLatch]) s m
      let next := match s.showCtl.current with
        | none => 0
        | some n => ((s.cue n).bind (·.next)).getD (n + 1)
      (s.showCtl.showStop = true ∨ s.cue next = none → exec (.go h) s = .next (replyTo h .refusedState [] s)) ∧
      (∀ c, s.showCtl.showStop = false → s.cue next = some c →
        ∃ m, exec (.go h) s = .next (replyTo h .done [] m) ∧ taken next c m) ∧
      (∀ n, (s.cue n = none → exec (.goto h n) s = .next (replyTo h .refusedRange [] s)) ∧
        (∀ c, s.cue n = some c → s.showCtl.showStop = true → exec (.goto h n) s = .next (replyTo h .refusedState [] s)) ∧
        (∀ c, s.cue n = some c → s.showCtl.showStop = false →
          ∃ m, exec (.goto h n) s = .next (replyTo h .done [] m) ∧ taken n c m))) ∧
  (∀ (s : State) (left : Nat), Sized s → s.pins.resetLow = false → s.showCtl.autoFollow = some left → left ≤ 1 →
      s.showCtl.hold = false → s.showCtl.autoCounted = false →
      let next := match s.showCtl.current with
        | none => 0
        | some n => ((s.cue n).bind (·.next)).getD (n + 1)
      (s.showCtl.showStop = true ∨ s.cue next = none → ∃ t, exec .autoFollowExpiry s = .next t ∧ t.showCtl.autoFollow = none ∧
        Only (settling ++ [Part.autoFollow]) s t ∧
        (Settled s → t = s.setShow { s.showCtl with autoFollow := none, autoCounted := true })) ∧
      (∀ c, s.showCtl.showStop = false → s.cue next = some c → ∃ t, exec .autoFollowExpiry s = .next t ∧
        t.buses = (applyScene c.scene c.crossfade s).buses ∧ t.showCtl.current = some next ∧
        t.showCtl.watched = (s.scene c.scene).scope ∧
        t.showCtl.autoFollow = c.autoFollow.map (fun d => if d = 0 then 1 else d * 48) ∧ t.showCtl.autoCounted = true ∧
        (t.showCtl.cueLatch = true ↔ s.showCtl.cueLatch = true ∨ s.showCtl.cueMark = some next) ∧
        t.showCtl.engine = (if watchedMoving t then .fading else .settled) ∧
        Only (settling ++ [Part.crosspoints, Part.engine, Part.autoFollow, Part.cueLatch]) s t))

/-- R133, R168, R170: SHOW-CLEAR of the show-stop latch is refused while a LOADED THEATRE zone is under FIRE or GENERAL, and in the frame
period of a STOP line's edge (log entry 44), and otherwise clears it with the held flags; of the cue mark, clears the cue-mark latch; of
the lines, clears the latched flags and drops their lines, but for a line whose source has risen in the same frame period (R170, log
entry 43). -/
def Obligations.ShowClearClearsItsLatch : Prop :=
  ∀ (h : ReqHdr) (s : State), Sized s → Admitted h .operator s →
    let alarmed := ∃ z < 96, ∃ n ∈ s.zone z, n.kind = .theatre ∧ (n.applied = some .fire ∨ n.applied = some .general)
    (alarmed ∨ s.showCtl.stopRose = true → exec (.showClearShowStop h) s = .next (replyTo h .refusedState [] s)) ∧
    (¬ alarmed → s.showCtl.stopRose = false → ∃ m, exec (.showClearShowStop h) s = .next (replyTo h .done [] m) ∧ m.showCtl.showStop = false ∧
      (s.showCtl.showStop = true → ∀ z n, m.zone z = some n → n.kind = .theatre → n.held = false) ∧
      Only (settling ++ [Part.showStop, Part.held]) s m) ∧
    (∃ m, exec (.showClearCueMark h) s = .next (replyTo h .done [] m) ∧ m.showCtl.cueLatch = false ∧
      (∀ n, n < 4 → (s.line n).source ≠ .cueMark → m.line n = s.line n) ∧
      (∀ n, n < 4 → (s.line n).source = .cueMark → s.showCtl.cueLatch = true → (s.line n).width = .direct →
        m.line n = { s.line n with level := false }) ∧
      Only [.cueLatch, .lines] s m) ∧
    exec (.showClearLines h) s = .next (replyTo h .done [] (s.setShow { s.showCtl with
      lines := s.showCtl.lines.map (fun l =>
        if l.width = .latch ∧ l.latched = true ∧ l.rose = false then { l with level := false, latched := false } else l) }))

/-- R165, R166, R171: LOAD-LINE of a gate line writes its debounce time and mode, sets its count to 0 and judges HOLD anew; of a status
line, writes source, width and stretch time, and takes a source that is true as a rise.
R170: a status line follows its source: DIRECT rises and falls with it; STRETCH stays up for its stretch time after a rise, and falls
with its source or at the end of that time, whichever is later; LATCH stays up until it is cleared, and is marked through the frame
period of its rise (log entry 43). The stretch timer ends in the frame period that brings it to its end (log entry 1).
Table 9-1, R169: what each source is, and that every command that can change a source lets every line follow it (log entry 27), among
them RESET-NODE JOBS, for which R173 keeps the lines and the model lets them follow all the same (log entry 35): a frame
by its port, its slots and its alarm word (what its cell asks for is a command of its own), the samples of the tone voices in a settled
state (`Settled`). The resets and the commands of the lines themselves are told apart above and elsewhere. -/
def Obligations.LinesAreLoadedAndFollowTheirSources : Prop :=
  ((∀ (h : ReqHdr) (line setting mode : Nat) (s : State), Admitted h .config s →
      (3 < line ∨ 4 < setting ∨ 3 < mode → exec (.loadLineGate h line setting mode) s = .next (replyTo h .refusedRange [] s)) ∧
      (line ≤ 3 → setting ≤ 4 → ∀ gm, gateModeOf mode = some gm →
        let gates := s.showCtl.gates.modify line (fun g =>
          { g with setting := [0, 1, 5, 10, 50].getD setting 0, mode := gm, count := 0 })
        exec (.loadLineGate h line setting mode) s = .next (replyTo h .done [] (s.setShow { s.showCtl with
          gates := gates, hold := gates.any (fun g => g.mode == .hold && g.level) })))) ∧
    (∀ (h : ReqHdr) (line source width stretch : Nat) (s : State), Admitted h .config s →
      (line < 4 ∨ 7 < line ∨ 9 < source ∨ 2 < width ∨ 7 < stretch →
        exec (.loadLineStatus h line source width stretch) s = .next (replyTo h .refusedRange [] s)) ∧
      (4 ≤ line → line ≤ 7 → ∀ src w, lineSources[source]? = some src → lineWidths[width]? = some w → stretch ≤ 7 →
        let ms := [1, 5, 10, 20, 50, 100, 200, 500].getD stretch 0
        exec (.loadLineStatus h line source width stretch) s = .next (replyTo h .done [] (s.modLine (line - 4) (fun _ =>
          { source := src, width := w, stretch := ms, level := sourceTrue s src,
            timer := if sourceTrue s src = true ∧ w = .stretch then ms * 48 else 0,
            latched := sourceTrue s src && w == .latch, rose := false })))))) ∧
  ((∀ (n : Fin 4) (s : State), Sized s → s.pins.resetLow = false →
      ∃ t, exec (.stretchTimerExpiry n) s = .next t ∧ (∀ k, k ≠ n.val → t.line k = s.line k) ∧ Only [.lines] s t ∧
        t.line n.val = (if (s.line n.val).timer = 0 ∨ 2 ≤ (s.line n.val).timer then s.line n.val else
          { s.line n.val with timer := 0, level := (s.line n.val).level && sourceTrue s (s.line n.val).source })) ∧
    (∀ l : Line, followSource true true l = l ∧ followSource false false l = l ∧
      (l.width = .direct → followSource false true l = { l with level := true } ∧
        followSource true false l = { l with level := false }) ∧
      (l.width = .stretch → followSource false true l = { l with level := true, timer := l.stretch * 48 } ∧
        followSource true false l = (if l.timer = 0 then { l with level := false } else l)) ∧
      (l.width = .latch → followSource false true l = { l with level := true, latched := true, rose := true } ∧
        followSource true false l = l)) ∧
    (∀ s : State, Sized s →
      sourceTrue s .off = false ∧ sourceTrue s .on = true ∧
      (sourceTrue s .alarmAny = true ↔ ∃ f, 1 ≤ f ∧ f ≤ 16 ∧ (s.fireZone f).resolved ≠ none) ∧
      (sourceTrue s .alarmGeneral = true ↔ ∃ f, 1 ≤ f ∧ f ≤ 16 ∧ (s.fireZone f).resolved = some .general) ∧
      sourceTrue s .showStop = s.showCtl.showStop ∧ sourceTrue s .cueMark = s.showCtl.cueLatch ∧
      (sourceTrue s .theatreVoice = true ↔ ∃ z < 96, ∃ n ∈ s.zone z, n.kind = .theatre ∧
        ∃ c src, heardOf s z = some (.audible c src)) ∧
      (sourceTrue s .ampFaultAny = true ↔ ∃ g < 16, (s.amp g).state = .fault) ∧
      (sourceTrue s .trunkLoss = true ↔ (s.port 0).state ≠ .up ∨ (s.port 1).state ≠ .up) ∧
      (sourceTrue s .island = true ↔ (s.port 0).state ≠ .up ∧ (s.port 1).state ≠ .up)) ∧
    (∀ (c : Instr) (s t : State), (match c with
        | .frameArrival _ bytes => (frameCell bytes).kind = 0
        | .toneVoiceSample => Settled s
        | .lossTimerExpiry _ | .mixPeriod | .stepTimerExpiry _ | .contactDebounceComplete _ | .gateDebounceComplete _ _
        | .ampReadyChange _ _ | .ampFaultInputChange _ _ | .wakeTimerExpiry _ | .timeLimitExpiry _ | .sourceWatchExpiry _
        | .autoFollowExpiry | .loadPort _ _ _ | .resetNodeJobs _ | .loadOutput .. | .loadZoneLoad .. | .loadZoneUnload _ _
        | .pageOpen .. | .pageClose _ _ | .loadSignal .. | .alarmSet _ _ _ | .alarmClearCell _ _ | .alarmClearContact _ | .go _
        | .goto _ _ | .applyScene _ _ _ | .showClearShowStop _ | .showClearCueMark _ | .loadAmp .. | .faultClear _ _ => True
        | _ => False) → exec c s = .next t →
      ∀ n < 4, t.line n = followSource (sourceTrue s (s.line n).source) (sourceTrue t (s.line n).source) (s.line n)))

/-- R165 to R167: an input that differs from its gate line's debounced level, in the frame period that brings the debounce count to the
debounce length, is taken as the new level with the count at 0, and HOLD is judged anew. A rise in mode STOP sets the show-stop latch,
holds every THEATRE zone and stops the auto-follow timer; one that finds the latch set changes nothing more.
R160 to R164, R166: a rise in mode GO takes the next cue as a GO does (GoGotoAndAutoFollowTakeTheCue), without a reply. A rise that the
show-stop latch or an UNLOADED next cue refuses, a fall, and a rise in mode OFF or HOLD change only the gate and HOLD in a settled state
(`Settled`), and nothing but these and what settling may change in any other.
In every other frame period the debounced level stays as it is, and the input is the one that the frame period samples (log entry 1). A
rise in mode STOP is marked through its frame period (log entry 44). -/
def Obligations.GateEdgesActByTheirMode : Prop :=
  (∀ (n : Fin 4) (high : Bool) (s : State), Sized s → s.pins.resetLow = false → (s.gate n.val).level ≠ high →
    (s.gate n.val).setting * 48 ≤ (s.gate n.val).count + 1 → ∃ t, exec (.gateDebounceComplete n high) s = .next t ∧
      t.gate n.val = { s.gate n.val with input := high, level := high, count := 0 } ∧
      (∀ k, k ≠ n.val → t.gate k = s.gate k) ∧
      t.showCtl.hold = t.showCtl.gates.any (fun g => g.mode == .hold && g.level) ∧
      t.showCtl.stopRose = (s.showCtl.stopRose || (high && (s.gate n.val).mode == .stop)) ∧
      t.showCtl.autoCounted = s.showCtl.autoCounted ∧
      let idle := Only (settling ++ [Part.gates, Part.hold]) s t ∧ (Settled s → Only [.gates, .hold] s t)
      (high = true → (s.gate n.val).mode = .stop → t.showCtl.showStop = true ∧
        (s.showCtl.showStop = false → t.showCtl.autoFollow = none ∧ ∀ z m, t.zone z = some m → m.kind = .theatre → m.held = true) ∧
        Only (settling ++ [Part.gates, Part.hold, Part.showStop, Part.held, Part.autoFollow]) s t ∧
        (s.showCtl.showStop = true → idle)) ∧
      (high = true → (s.gate n.val).mode = .go → s.showCtl.showStop = false → ∀ c, s.cue (nextCue s) = some c →
        t.buses = (applyScene c.scene c.crossfade s).buses ∧ t.showCtl.current = some (nextCue s) ∧
        t.showCtl.watched = (s.scene c.scene).scope ∧
        t.showCtl.autoFollow = c.autoFollow.map (fun d => if d = 0 then 1 else d * 48) ∧
        (t.showCtl.cueLatch = true ↔ s.showCtl.cueLatch = true ∨ s.showCtl.cueMark = some (nextCue s)) ∧
        t.showCtl.engine = (if watchedMoving t then .fading else .settled) ∧
        Only (settling ++ [Part.gates, Part.hold, Part.crosspoints, Part.engine, Part.autoFollow, Part.cueLatch]) s t) ∧
      (high = true → (s.gate n.val).mode = .go → s.showCtl.showStop = true ∨ s.cue (nextCue s) = none → idle) ∧
      (high = false ∨ (s.gate n.val).mode = .off ∨ (s.gate n.val).mode = .hold → idle)) ∧
  (∀ (n : Fin 4) (high : Bool) (s : State), s.pins.resetLow = false → (s.gate n.val).count + 1 < (s.gate n.val).setting * 48 →
    exec (.gateDebounceComplete n high) s = .next (s.modGate n.val (fun g => { g with input := high })))

/-! Chapter 10: the ambient meter -/

/-- R174 to R176: LOAD-SENSOR writes a sensor, its fields clamped, its state and last level kept, or makes it UNUSED; a window of that
sensor in progress begins anew, with its zone set and marks (R179), after LOAD and after UNLOAD, and takes no sample in the frame period
at hand (R178, log entry 47). LOAD-CURVE writes breakpoints with
rising thresholds. -/
def Obligations.MeterLoadsWriteTheirTables : Prop :=
  let restarted : Nat → State → State → Window → Prop := fun n s m w =>
    m.ambient.scan = { s.ambient.scan with window := some w } ∧ w.fresh = true ∧ w.elapsed = 0 ∧ w.sum = 0 ∧
      w.zones = ((List.range 96).filter (fun z => (s.zone z).any (fun x => x.sensor == some n))).map
        (fun z => (z, (s.zone z).any (fun x => x.mode != .normal)))
  (∀ (h : ReqHdr) (n input : Nat) (offset : Int) (low high curve : Nat) (step : Option Nat) (s : State), Sized s →
    Admitted h .config s →
    (7 < n ∨ 7 < input ∨ 7 < curve →
      exec (.loadSensorLoad h n input offset low high curve step) s = .next (replyTo h .refusedRange [] s)) ∧
    (n ≤ 7 → input ≤ 7 → curve ≤ 7 →
      ∃ m, exec (.loadSensorLoad h n input offset low high curve step) s = .next (replyTo h .done [] m) ∧
        m.ambient.sensors = s.ambient.sensors.set n (some
          { suspect := ((s.sensor n).map (·.suspect)).getD false, input := input,
            offset := max (-32768) (min 32767 offset), low := min 8421375 low, high := min 8421375 high, curve := curve,
            compStep := max 1 (min 32767 (step.getD 256)), last := (s.sensor n).bind (·.last) }) ∧
        (s.ambient.scan.window.isSome = true → s.ambient.scan.sensor = n → ∃ w, restarted n s m w ∧ w.input = input ∧
          w.offset = max (-32768) (min 32767 offset)) ∧
        (s.ambient.scan.window = none ∨ s.ambient.scan.sensor ≠ n → m.ambient.scan = s.ambient.scan) ∧
        Only [.sensors, .scan, .windowMarks] s m)) ∧
  (∀ (h : ReqHdr) (n : Nat) (s : State), Sized s → Admitted h .config s →
    (7 < n → exec (.loadSensorUnload h n) s = .next (replyTo h .refusedRange [] s)) ∧
    (n ≤ 7 → ∃ m, exec (.loadSensorUnload h n) s = .next (replyTo h .done [] m) ∧
      m.ambient.sensors = s.ambient.sensors.set n none ∧
      (s.ambient.scan.window.isSome = true → s.ambient.scan.sensor = n → ∃ w, restarted n s m w) ∧
      (s.ambient.scan.window = none ∨ s.ambient.scan.sensor ≠ n → m.ambient.scan = s.ambient.scan) ∧
      Only [.sensors, .scan, .windowMarks] s m)) ∧
  (∀ (h : ReqHdr) (n : Nat) (first : Bool) (points : List (Nat × Nat)) (s : State), Admitted h .config s → points.length ≤ 4 →
    let all := (if first then [] else s.curve n) ++ points.map (fun p => (min 8421375 p.1, max 16384 (min 32767 p.2)))
    let rises := (all.map Prod.fst).Pairwise (fun a b => a < b)
    (7 < n ∨ ¬ rises → exec (.loadCurve h n first points) s = .next (replyTo h .refusedRange [] s)) ∧
    (n ≤ 7 → rises → 8 < all.length → exec (.loadCurve h n first points) s = .next (replyTo h .refusedFull [] s)) ∧
    (n ≤ 7 → rises → all.length ≤ 8 → exec (.loadCurve h n first points) s = .next (replyTo h .done []
      (s.setAmbient { s.ambient with curves := s.ambient.curves.set n all }))))

/-- R177 to R179: SCAN START begins a window of its first sensor, with the sensor's input and offset and, marked where they stand outside
NORMAL, the zones that name it (an UNUSED sensor has input 0 and offset 0, log entry 41), and it takes no sample in the frame period at
hand (R178, log entry 47); SCAN STOP discards the window, and the IDLE scan keeps its mode and range (log entry 24).
R179: in a settled state (`Settled`) of full table sizes (`Sized`) every command that neither begins nor ends a window, and is no
LOAD-ZONE, leaves the window its zones and their marks, and marks those that it takes out of NORMAL (`MarksFollow`): a frame by its port,
its slots and its alarm word (what its cell asks for is a command of its own). A zone once marked stays so until the window ends. -/
def Obligations.ScanStartsAndStops : Prop :=
  (∀ (h : ReqHdr) (s : State), Sized s → Admitted h .operator s →
    (∀ first last mode, 7 < first ∨ 7 < last ∨ last < first ∨ 1 < mode →
      exec (.scanStart h first last mode) s = .next (replyTo h .refusedRange [] s)) ∧
    (∀ first last mode, first ≤ last → last ≤ 7 → mode ≤ 1 →
      exec (.scanStart h first last mode) s = .next (replyTo h .done [] (s.setAmbient { s.ambient with
        scan := { continuous := mode == 1, first := first, last := last, sensor := first,
                  window := some { fresh := true, elapsed := 0, sum := 0, input := ((s.sensor first).map (·.input)).getD 0,
                                   offset := ((s.sensor first).map (·.offset)).getD 0,
                                   zones := ((List.range 96).filter (fun z => (s.zone z).any (fun n => n.sensor == some first))).map
                                     (fun z => (z, (s.zone z).any (fun n => n.mode != .normal))) } } }))) ∧
    exec (.scanStop h) s = .next (replyTo h .done [] (s.setAmbient { s.ambient with
      scan := { s.ambient.scan with window := none } }))) ∧
  (∀ (c : Instr) (s t : State), (match c with
      | .frameArrival _ bytes => (frameCell bytes).kind = 0
      | .hardwareReset _ | .resetInputLow | .resetNodeJobs _ | .resetNodeAll _ | .scanStart .. | .scanStop _ | .scanWindowComplete
      | .loadSensorLoad .. | .loadSensorUnload _ _ | .loadZoneLoad .. | .loadZoneUnload _ _ => False
      | _ => True) → Sized s → Settled s → exec c s = .next t → MarksFollow [] s t)

/-- R178 to R180, R176, R33: a window of 4,800 frame periods that completes gives its sensor the level floor(sum / 4,800). A level
outside the limits makes the sensor SUSPECT and compensates nothing; one inside makes it GOOD, and each zone of the window not marked
contaminated takes the curve's value as target, that of the highest threshold not above the level, or unity below the lowest, and
moves its current a step nearer. The scan goes on to the next sensor, to its first, or ends; a window begun is empty, with its sensor's
input and offset (those of an UNUSED one by log entry 41) and the zones that name it, marked where they stand outside NORMAL, and takes no
sample in the frame period at hand (log entry 47). A GOOD sensor that becomes SUSPECT, and a SUSPECT one that becomes GOOD, is reported to
the report node by one EVENT-NOTICE of class SENSOR (bytes by log entry 19). -/
def Obligations.WindowCompletionCompensates : Prop :=
  ∀ (s : State) (w : Window), Sized s → s.pins.resetLow = false → s.ambient.scan.window = some w →
    4800 ≤ w.elapsed → (w.zones.map Prod.fst).Nodup →
    let n := s.ambient.scan.sensor
    let level := w.sum / 4800
    let value : Nat → Nat := fun c =>
      (((s.curve c).filter (fun p => decide (p.1 ≤ level))).getLast?.map (fun p => p.2)).getD 16384
    ∃ t, exec .scanWindowComplete s = .next t ∧
      let scan := s.ambient.scan
      let begun : Nat → Scan := fun k => { scan with
        sensor := k,
        window := some { fresh := true, elapsed := 0, sum := 0, input := ((s.sensor k).map (·.input)).getD 0,
                         offset := ((s.sensor k).map (·.offset)).getD 0,
                         zones := ((List.range 96).filter (fun z => (s.zone z).any (fun x => x.sensor == some k))).map
                           (fun z => (z, (t.zone z).any (fun x => x.mode != .normal))) } }
      (s.sensor n = none → t.ambient.sensors = s.ambient.sensors ∧ t.zones = s.zones ∧ t.ports = s.ports) ∧
      (∀ x, s.sensor n = some x →
        t.ambient.sensors = s.ambient.sensors.set n
          (some { x with last := some level, suspect := decide (level < x.low ∨ x.high < level) }) ∧
        (x.suspect = false → level < x.low ∨ x.high < level → EventNoticed s t [3, byteOf n, 0]) ∧
        (x.suspect = true → x.low ≤ level → level ≤ x.high → EventNoticed s t [3, byteOf n, 1]) ∧
        ((x.suspect = true ↔ (level < x.low ∨ x.high < level)) → t.ports = s.ports) ∧
        (level < x.low ∨ x.high < level → t.zones = s.zones) ∧
        (x.low ≤ level → level ≤ x.high → ∀ z, (t.zone z).map (fun m => (m.compCur, m.compTarget)) =
          if (z, false) ∈ w.zones then (s.zone z).map (fun m =>
            (moveToward m.compCur (value x.curve) x.compStep, value x.curve))
          else (s.zone z).map (fun m => (m.compCur, m.compTarget)))) ∧
      t.ambient.scan = (if n < scan.last then begun (n + 1) else if scan.continuous = true then begun scan.first
        else { scan with window := none }) ∧
      Only [.sensors, .scan, .windowMarks, .comp, .layers, .queues] s t

/-! Chapter 11: amplifier power -/

/-- R185 to R189: the inputs of an amp group. READY rising completes a wake into ON, where a group without demand counts its residency
from 0 (in a settled state, `Settled`). R186: in every other state of the group, and falling, READY acts on nothing: in a settled state
nothing but the level changes. R188: FAULT rising puts the group in FAULT with AMP_FAULT, and falling, under the fault-clear mode
AUTO, lets it leave; the wake limit, in the frame period that brings it to its end (log entry 1), puts a WAKING group in FAULT with
NO_READY; an entry keeps the early-wake count and the early flag, and stops wake timer, residency and window timer. A wake from FAULT
keeps the count and the flag too (R187, R189).
R90, R91, R103, R147 to R149: in a settled state each of these lets the claims whose zones become ready, or are ready no more, go where
that takes them, each change reported (`ClaimsPassed`, log entries 7, 33, 37 and 38), and the talkers follow.
R33, R189: the EVENT-NOTICE of an entry into FAULT, and of its leaving, joins the queue of the port that leads to the report node before
every other notice of the event (bytes and order by log entries 10, 15 and 19). -/
def Obligations.AmpInputsMoveTheGroup : Prop :=
  ∀ (g : Fin 16) (s : State), Sized s → s.pins.resetLow = false →
    let a := s.amp g.val
    let kept : State → Prop := fun t => (t.amp g.val).early = a.early ∧ (t.amp g.val).earlyFlag = a.earlyFlag
    let noticed : List Byte → State → Prop := fun l t => EventNoticed s t ([2, byteOf g.val] ++ l)
    let passed : State → State → Prop := fun s t => AmpInv s → ClaimsPassed false s t
    (∀ high, a.readyIn ≠ high → ∃ t, exec (.ampReadyChange g high) s = .next t ∧ (t.amp g.val).readyIn = high ∧
      (t.amp g.val).faultIn = a.faultIn ∧
      (high = true → a.state = .waking → hasDemand s g.val = true → a.demand = true → ClaimInv s →
        (t.amp g.val).state = .on ∧ (t.amp g.val).wakeTimer = none ∧ (t.amp g.val).residency = none) ∧
      (high = true → a.state = .waking → a.demand = false → Settled s →
        t.amp g.val = { a with readyIn := true, state := .on, wakeTimer := none, residency := some 0 }) ∧
      (high = false ∨ a.state ≠ .waking → Settled s → t = s.modAmp g.val (fun a => { a with readyIn := high })) ∧
      passed s t ∧ Only (settling ++ [Part.ampInputs]) s t) ∧
    (a.faultIn = false → ∃ t, exec (.ampFaultInputChange g true) s = .next t ∧ (t.amp g.val).faultIn = true ∧
      (t.amp g.val).state = .fault ∧ (t.amp g.val).reason = some .ampFault ∧ kept t ∧
      (a.state ≠ .fault → (t.amp g.val).wakeTimer = none ∧ (t.amp g.val).residency = none ∧ (t.amp g.val).windowTimer = none) ∧
      (a.state ≠ .fault ∨ a.reason ≠ some .ampFault → noticed [0, 0] t) ∧
      passed s t ∧ Only (settling ++ [Part.ampInputs]) s t) ∧
    (a.faultIn = true → ∃ t, exec (.ampFaultInputChange g false) s = .next t ∧ (t.amp g.val).faultIn = false ∧
      (a.state = .fault → a.reason = some .ampFault → a.auto = true → (t.amp g.val).reason = none ∧
        ((t.amp g.val).state = if a.readyIn then .on else .waking) ∧
        (a.readyIn = false → (t.amp g.val).wakeTimer = some (a.wakeOff * 48)) ∧ kept t ∧ noticed [1] t) ∧
      (a.state = .fault → a.reason ≠ some .ampFault ∨ a.auto = false →
        (t.amp g.val).state = .fault ∧ (t.amp g.val).reason = a.reason) ∧
      passed s t ∧ Only (settling ++ [Part.ampInputs]) s t) ∧
    (∀ n, a.state = .waking → a.wakeTimer = some n → n ≤ 1 → ∃ t, exec (.wakeTimerExpiry g) s = .next t ∧
      (t.amp g.val).state = .fault ∧ (t.amp g.val).reason = some .noReady ∧ kept t ∧ (t.amp g.val).wakeTimer = none ∧
      (t.amp g.val).residency = none ∧ (t.amp g.val).windowTimer = none ∧ noticed [0, 1] t ∧ passed s t ∧ Only settling s t)

/-- R184: an amp group has demand while a zone of it is under alarm, has a WAKING, CHIMING or LIVE claim at its head, or has a live
crosspoint entry on one of its buses with a coefficient or a target that is not 0.
R184, R186, R187: demand that appears on an ON group stops its residency, wakes a QUIET group at once, and makes a STANDBY or OFF
group WAKING with its wake limit running, or ON at once where READY is high, an early wake counted while the early flag is set, at most
to 7; a demand that stands changes no group; demand that is lost starts
the residency of an ON or QUIET group from 0. In a settled state (`Settled`) every command that can change the demand lets every group
follow it: a frame by its port, its slots and its alarm word (what its cell asks for is a command of its own). The commands that write
the groups themselves are told apart in the statements about them, and the resets in theirs. -/
def Obligations.DemandWakesTheGroup : Prop :=
  (∀ (s : State) (g : Nat), hasDemand s g = true ↔ ∃ z < 96, ∃ n ∈ s.zone z, n.amp = some g ∧
    (n.applied ≠ none ∨
      (∃ c cl, headOf s z = some c ∧ s.claim c = some cl ∧ (cl.state = .waking ∨ cl.state = .chiming ∨ cl.state = .live)) ∨
      ∃ b ∈ n.buses, ∃ x ∈ (s.bus b).live, x.cur ≠ 0 ∨ x.target ≠ 0)) ∧
  (∀ (g : Nat) (s : State), Sized s → g < 16 → hasDemand s g = true → (s.amp g).demand = false →
    let a := s.amp g
    let woken : Nat → Amp := fun limit =>
      { a with demand := true, state := if a.readyIn then .on else .waking, reason := none, residency := none, windowTimer := none,
               early := if a.earlyFlag then min 7 (a.early + 1) else a.early,
               wakeTimer := if a.readyIn then none else some (limit * 48) }
    (updateDemand g s).amp g = match a.state with
      | .on => { a with demand := true, residency := none }
      | .quiet => { a with demand := true, state := .on, residency := none, windowTimer := none }
      | .standby => woken a.wakeStandby
      | .off => woken a.wakeOff
      | .waking => { a with demand := true, residency := none }
      | .fault => { a with demand := true, residency := none }) ∧
  (∀ (g : Nat) (s : State), Sized s → g < 16 → hasDemand s g = false → (s.amp g).demand = true →
    let a := s.amp g
    (updateDemand g s).amp g = if a.state = .on ∨ a.state = .quiet then { a with demand := false, residency := some 0 }
      else { a with demand := false }) ∧
  (∀ (g : Nat) (s : State), hasDemand s g = (s.amp g).demand → updateDemand g s = s) ∧
  (∀ (c : Instr) (s t : State), (match c with
      | .frameArrival _ bytes => (frameCell bytes).kind = 0
      | .lossTimerExpiry _ | .mixPeriod | .stepTimerExpiry _ | .contactDebounceComplete _ | .gateDebounceComplete _ _
      | .timeLimitExpiry _ | .sourceWatchExpiry _ | .autoFollowExpiry | .loadPort _ _ _ | .resetNodeJobs _ | .loadOutput ..
      | .loadZoneLoad .. | .loadZoneUnload _ _ | .pageOpen .. | .pageClose _ _ | .loadSignal .. | .alarmSet _ _ _
      | .alarmClearCell _ _ | .alarmClearContact _ | .go _ | .goto _ _ | .applyScene _ _ _ => True
      | _ => False) → Sized s → Settled s → exec c s = .next t →
    ∀ g < 16, t.amp g = (updateDemand g { t with power := s.power }).amp g)

/-- R183, R185: the idle target is the deepest state whose threshold, if not 0, the residency has reached, limited by the policy and, for
a demoted group, to QUIET; a group that stands above its idle target moves to it, and never rises by being judged. One that leaves ON
or QUIET for a deeper state begins a demotion window with the early flag set; one that becomes QUIET has a window exactly while demoted.
R185, R187: in the frame period that brings a window timer to its end (log entry 1), a full window lowers the early-wake count by 1, not
below 0, clears the early flag and begins another window, or stops it for a QUIET group without demand that is no longer demoted. In
the frame period that brings the residency to an idle threshold (log entry 1), the residency takes it. Both then judge the idle
target, and mark that this frame period is counted (log entry 46). -/
def Obligations.IdleTimersDeepenTheGroup : Prop :=
  let isDemoted : Amp → Prop := fun a => a.threshold ≠ 0 ∧ a.threshold ≤ a.early
  let depth : AmpState → Option Nat := fun st => match st with
    | .on => some 0
    | .quiet => some 1
    | .standby => some 2
    | .off => some 3
    | _ => none
  let judged : Nat → Amp → Amp := fun policy a =>
    let deepest := match a.residency with
      | none => 0
      | some r =>
        if a.offAfter ≠ 0 ∧ a.offAfter * 48000 ≤ r then 3 else if a.standbyAfter ≠ 0 ∧ a.standbyAfter * 48000 ≤ r then 2
        else if a.quietAfter ≠ 0 ∧ a.quietAfter * 48000 ≤ r then 1 else 0
    let target := min (min deepest policy) (if isDemoted a then 1 else 3)
    match depth a.state with
    | none => a
    | some d =>
      if target ≤ d then a
      else if target = 1 then { a with state := .quiet, windowTimer := if isDemoted a then some 0 else none }
      else if a.state = .standby then { a with state := .off }
      else { a with state := if target = 2 then .standby else .off, windowTimer := some 0, earlyFlag := true }
  (∀ (policy : Nat) (a : Amp), policy ≤ 3 → judgeIdle policy a = judged policy a ∧
    ∀ d, depth a.state = some d → ∃ e, depth (judgeIdle policy a).state = some e ∧ d ≤ e ∧ e = max d (idleTarget policy a)) ∧
  (∀ (g : Fin 16) (s : State), Sized s → s.pins.resetLow = false → s.power.policy ≤ 3 →
    let a := s.amp g.val
    (∀ n, a.windowTimer = some n → a.window * 48000 ≤ n + 1 → a.windowCounted = false →
      let b := { a with early := a.early - 1, earlyFlag := false, windowCounted := true }
      exec (.fullWindow g) s = .next (s.modAmp g.val (fun _ => judged s.power.policy
        { b with windowTimer := if a.state = .quiet ∧ a.demand = false ∧ ¬ isDemoted b then none else some 0 }))) ∧
    (∀ r th, a.residency = some r → th ∈ [a.quietAfter, a.standbyAfter, a.offAfter] → th ≠ 0 → r + 1 = th * 48000 →
      a.residencyCounted = false → exec (.idleResidencyThreshold g) s =
        .next (s.modAmp g.val (fun _ => judged s.power.policy
          { a with residency := some (th * 48000), residencyCounted := true }))))

/-- R189 to R191: LOAD-AMP writes a group's settings, clamped. In a settled state (`Settled`) it keeps every other field, but that the
demoted condition is judged anew for a QUIET group without demand, then the idle target; and that a group in FAULT with reason AMP_FAULT and
its FAULT input low, given AUTO, leaves FAULT, which is reported (order and bytes by log entries 10 and 19). AMP-POLICY writes the policy
and judges every group; FAULT-CLEAR lets a group in FAULT whose FAULT input is low leave it into WAKING, reported with RECOVERED (Table 2-4,
order and bytes by log entries 10 and 19), and is refused otherwise. -/
def Obligations.AmpRequestsSetAndClear : Prop :=
  (∀ (h : ReqHdr) (g mode q sb o ws wo th w : Nat) (s : State), Sized s → Admitted h .config s →
    (15 < g ∨ 1 < mode → exec (.loadAmp h g mode q sb o ws wo th w) s = .next (replyTo h .refusedRange [] s)) ∧
    (g ≤ 15 → mode ≤ 1 → ∃ m, exec (.loadAmp h g mode q sb o ws wo th w) s = .next (replyTo h .done [] m) ∧
      (m.amp g).auto = (mode == 0) ∧ (m.amp g).quietAfter = min 3600 q ∧ (m.amp g).standbyAfter = min 3600 sb ∧
      (m.amp g).offAfter = min 3600 o ∧ (m.amp g).wakeStandby = max 1 (min 65535 ws) ∧
      (m.amp g).wakeOff = max 1 (min 65535 wo) ∧ (m.amp g).threshold = min 7 th ∧ (m.amp g).window = max 1 (min 3600 w) ∧
      (∀ k, k ≠ g → Part.same.ampSettings (m.amp k) = Part.same.ampSettings (s.amp k)) ∧
      (Settled s →
        let a := s.amp g
        let written : Amp := { a with
          auto := mode == 0, quietAfter := min 3600 q, standbyAfter := min 3600 sb, offAfter := min 3600 o,
          wakeStandby := max 1 (min 65535 ws), wakeOff := max 1 (min 65535 wo), threshold := min 7 th,
          window := max 1 (min 3600 w) }
        let leaves := a.state = .fault ∧ a.reason = some .ampFault ∧ a.faultIn = false ∧ mode = 0
        (∀ k < 16, k ≠ g → m.amp k = s.amp k) ∧
        (leaves → EventNoticed s m [2, byteOf g, 1] ∧
          m.amp g = if a.readyIn = true then
              { written with state := .on, reason := none, wakeTimer := none, windowTimer := none,
                             residency := if a.demand = true then none else some 0 }
            else { written with state := .waking, reason := none, windowTimer := none, residency := none,
                                wakeTimer := some (max 1 (min 65535 wo) * 48) }) ∧
        (¬ leaves → m.amp g = judgeIdle s.power.policy
          (if a.state = .quiet ∧ a.demand = false then
            { written with windowTimer := if min 7 th ≠ 0 ∧ min 7 th ≤ a.early then some (a.windowTimer.getD 0) else none }
          else written))) ∧
      Only (settling ++ [Part.ampSettings]) s m)) ∧
  (∀ (h : ReqHdr) (deepest : Nat) (s : State), Admitted h .bridge s → exec (.ampPolicy h deepest) s =
    if deepest ≤ 3 then .next (replyTo h .done [] (s.setPower
      { policy := deepest,
        groups := s.power.groups.map (fun a => match idleDepth a.state with
          | some d => if d < idleTarget deepest a then deepen (idleTarget deepest a) a else a
          | none => a) }))
    else .next (replyTo h .refusedRange [] s)) ∧
  (∀ (h : ReqHdr) (g : Nat) (s : State), Sized s → Admitted h .operator s →
    (15 < g → exec (.faultClear h g) s = .next (replyTo h .refusedRange [] s)) ∧
    (g ≤ 15 → (s.amp g).state ≠ .fault ∨ (s.amp g).faultIn = true → exec (.faultClear h g) s = .next (replyTo h .refusedState [] s)) ∧
    (g ≤ 15 → (s.amp g).state = .fault → (s.amp g).faultIn = false →
      ∃ m, exec (.faultClear h g) s = .next (replyTo h .done [] m) ∧ (m.amp g).reason = none ∧
        (m.amp g).state = (if (s.amp g).readyIn then .on else .waking) ∧
        ((s.amp g).readyIn = false → (m.amp g).wakeTimer = some ((s.amp g).wakeOff * 48)) ∧
        EventNoticed s m [2, byteOf g, 1] ∧ Only settling s m))

/-- The model's choice (log entry 1): an expiry or completion command whose timer does not run, or would not be brought to its end by
the frame period at hand, and one whose level is the one held, changes nothing, but that the level of an input is the one reported. A
loss timer that a good frame restarted so has no expiry (R3), and neither has an auto-follow timer, a window timer or a residency that
such a command has had counted in this frame period (log entry 46). A contact whose debounce count does not reach 960 in this frame period
keeps its debounced level (R127). -/
def Obligations.StoppedTimersHaveNoExpiry : Prop :=
  ∀ s : State, s.pins.resetLow = false →
    (∀ p, (∀ n, (s.port p.val).loss = some n → n + 1 < 16 * ((s.port p.val).lt + 1)) → exec (.lossTimerExpiry p) s = .next s) ∧
    (∀ v, (s.voice v.val).holder = .free ∨ (s.voice v.val).phase = .ended ∨ (s.voice v.val).timer ≠ 0 →
      exec (.stepTimerExpiry v) s = .next s) ∧
    (∀ closed, closed = s.alarm.contactClosed ∨ s.alarm.contactCount + 1 < 960 →
      exec (.contactDebounceComplete closed) s = .next (s.setPins { s.pins with contactIn := closed })) ∧
    (∀ n, exec (.gateDebounceComplete n (s.gate n.val).level) s =
      .next (s.modGate n.val (fun g => { g with input := g.level }))) ∧
    (∀ g, exec (.ampReadyChange g (s.amp g.val).readyIn) s = .next s ∧
      exec (.ampFaultInputChange g (s.amp g.val).faultIn) s = .next s) ∧
    (∀ c, (∀ cl ∈ s.claim c.val, ∀ n, cl.timer = some n → 2 ≤ n) → exec (.timeLimitExpiry c) s = .next s) ∧
    (∀ c, (∀ cl ∈ s.claim c.val, streamAvailable s cl.source = true ∨ cl.watch + 1 < 48000) →
      exec (.sourceWatchExpiry c) s = .next s) ∧
    (∀ n i, (∀ m ∈ (s.group n.val).members[i.val]?, ∀ k, m.timer = some k → 2 ≤ k) → exec (.talkTimerExpiry n i) s = .next s) ∧
    ((∀ n, s.showCtl.autoFollow = some n → 2 ≤ n) ∨ s.showCtl.hold = true ∨ s.showCtl.autoCounted = true → exec .autoFollowExpiry s = .next s) ∧
    ((∀ w, s.ambient.scan.window = some w → w.elapsed < 4800) → exec .scanWindowComplete s = .next s) ∧
    (∀ g, (s.amp g.val).state ≠ .waking ∨ (∀ n, (s.amp g.val).wakeTimer = some n → 2 ≤ n) →
      exec (.wakeTimerExpiry g) s = .next s) ∧
    (∀ g, (∀ n, (s.amp g.val).windowTimer = some n → n + 1 < (s.amp g.val).window * 48000) ∨
      (s.amp g.val).windowCounted = true → exec (.fullWindow g) s = .next s) ∧
    (∀ g, let a := s.amp g.val
      (∀ r, a.residency = some r → ∀ th ∈ [a.quietAfter, a.standbyAfter, a.offAfter], th ≠ 0 → r + 1 ≠ th * 48000) ∨
        a.residencyCounted = true →
      exec (.idleResidencyThreshold g) s = .next s)

/-! Invariants -/

/-- State.reset meets every invariant. -/
def Obligations.ResetMeetsTheInvariants : Prop :=
  Sized State.reset ∧ LinkInv State.reset ∧ TableInv State.reset ∧ BusInv State.reset ∧ TalkInv State.reset ∧
    ClaimInv State.reset ∧ ShowInv State.reset ∧ AmpInv State.reset ∧ Settled State.reset

/-- Every step keeps the number of records of every table. -/
def Obligations.StepKeepsTheSizes : Prop := ∀ s t : State, Sized s → step s = .next t → Sized t

/-- Every step keeps the rules of the link ports: R2 to R6, R27. -/
def Obligations.StepKeepsTheLinks : Prop := ∀ s t : State, Sized s → LinkInv s → step s = .next t → LinkInv t

/-- Every step keeps the rules of the tables that requests load. -/
def Obligations.StepKeepsTheTables : Prop := ∀ s t : State, Sized s → TableInv s → step s = .next t → TableInv t

/-- Every step keeps the rules of the buses and of their live crosspoints: R17, R41, R42, R45, R46, R50, R52, R56. Among them, a bus has
at most 32 live entries, of which at most 16 are not RETIRING (Table 0-3, R46). -/
def Obligations.StepKeepsTheBuses : Prop :=
  ∀ s t : State, Sized s → TableInv s → BusInv s → step s = .next t → BusInv t

/-- Every step keeps the rules of the talk groups and of the calling counts: a stream's count is the number of its CHIMING and LIVE
claims, no talker's stream is calling, and every suspended member's is: R139, R140, R143 to R149. -/
def Obligations.StepKeepsTheTalkers : Prop := ∀ s t : State, Sized s → TalkInv s → step s = .next t → TalkInv t

/-- Every step keeps the rules of the claim lists: R81, R82, R87, R102. And every step leaves a settled state settled: each claim's
state agrees with the zones it heads (R89 to R95, Table 5-2), each grant is the one of R83, under alarm no claim below priority 7 is at
the head (R96), and voices, demands, layers and contamination marks agree with what they follow (`Settled`). -/
def Obligations.StepKeepsTheClaimLists : Prop :=
  (∀ s t : State, Sized s → ClaimInv s → step s = .next t → ClaimInv t) ∧
  ∀ s t : State, Sized s → ClaimInv s → AmpInv s → Settled s → step s = .next t → Settled t

/-- Every step keeps the rules of the show controller: R162, R163, R166 to R168, R170; and the model's own marks of a STOP edge (log entry
44) and of the rise of a LATCH line (log entry 43) agree with the latches they mark. -/
def Obligations.StepKeepsTheShow : Prop := ∀ s t : State, Sized s → ShowInv s → step s = .next t → ShowInv t

/-- Every step keeps the rules of the amp groups: R183, R185 to R188, R191. -/
def Obligations.StepKeepsTheAmps : Prop := ∀ s t : State, Sized s → AmpInv s → step s = .next t → AmpInv t

/-- R135, R20, R37: only HARDWARE_RESET starts the fallback feed or gives the part another node identity. -/
def Obligations.OnlyHardwareResetStartsTheFallbackFeed : Prop :=
  ∀ (c : Instr) (s t : State), exec c s = .next t → (∀ b, c ≠ .hardwareReset b) →
    t.node.id = s.node.id ∧ (t.alarm.fallback = true → s.alarm.fallback = true)
end

