-- ==== Sys2Proof/Laws/Frame.lean ====
section
/-! SUPPORT. Frames: how `Only` composes, and the frame of every shared operation, from the setters up to the settling of an
event. -/

namespace Sys2Proof.Machine

theorem Only.refl (l : List Part) (s : State) : Only l s s := by
  intro p _
  cases p <;> simp [Part.same]

theorem Part.same_trans {p : Part} {s t u : State} (h : p.same s t) (h' : p.same t u) : p.same s u := by
  cases p <;> exact Eq.trans h' h

theorem Only.trans {l : List Part} {s t u : State} (h : Only l s t) (h' : Only l t u) : Only l s u :=
  fun p hp => Part.same_trans (h p hp) (h' p hp)

theorem Only.mono {l m : List Part} {s t : State} (h : Only l s t) (hs : ∀ p ∈ l, p ∈ m) : Only m s t :=
  fun p hp => h p (fun hl => hp (hs p hl))

theorem foldl_only {α : Type} {l : List Part} (f : State → α → State) (h : ∀ s a, Only l s (f s a)) (xs : List α) (s : State) :
    Only l s (xs.foldl f s) := by
  induction xs generalizing s with
  | nil => exact Only.refl l s
  | cons x xs ih => exact (h s x).trans (ih (f s x))

theorem forUpTo_only {l : List Part} {f : Nat → State → State} (h : ∀ i s, Only l s (f i s)) (n : Nat) (s : State) :
    Only l s (forUpTo n f s) := foldl_only _ (fun s i => h i s) _ s

theorem forEach_only {α : Type} {l : List Part} {f : α → State → State} (h : ∀ a s, Only l s (f a s)) (xs : List α) (s : State) :
    Only l s (forEach xs f s) := foldl_only _ (fun s a => h a s) _ s

/-- A change of one record that a view does not show leaves the view of the list. -/
theorem map_modify_view {α β : Type} (g : α → β) (f : α → α) (h : ∀ x, g (f x) = g x) (l : List α) (i : Nat) :
    (l.modify i f).map g = l.map g := by
  induction l generalizing i with
  | nil => cases i <;> rfl
  | cons a l ih => cases i <;> simp [h, ih]

/-- A change of every record that a view does not show leaves the view of the list. -/
theorem map_map_view {α β : Type} (g : α → β) (f : α → α) (h : ∀ x, g (f x) = g x) (l : List α) :
    (l.map f).map g = l.map g := by simp [h]

/-- The same, with the index of each record. -/
theorem map_mapIdx_view {α β : Type} (g : α → β) (f : Nat → α → α) (h : ∀ i x, g (f i x) = g x) (l : List α) :
    (l.mapIdx f).map g = l.map g := by
  apply List.ext_getElem <;> simp [h]

/-! The queues -/

theorem modPort_queues {f : Port → Port} (h : ∀ q, (f q).link = q.link) (p : Nat) (s : State) :
    Only [.queues] s (s.modPort p f) := by
  intro q hq
  cases q <;> simp_all [Part.same, State.modPort, State.setPorts, map_modify_view]

theorem Port.queue_link (c : Cell) (q : Port) : (q.queue c).link = q.link := by
  unfold Port.queue
  split <;> rfl

theorem queueCell_only (p : Nat) (c : Cell) (s : State) : Only [.queues] s (queueCell p c s) :=
  modPort_queues (Port.queue_link c) p s

theorem replyTo_only (h : ReqHdr) (code : ReplyCode) (data : List Byte) (s : State) :
    Only [.queues] s (replyTo h code data s) := by
  unfold replyTo
  split
  · exact Only.refl _ s
  · exact queueCell_only _ _ s

theorem queueCopies_only (ps : List Nat) (c : Cell) (s : State) : Only [.queues] s (queueCopies ps c s) :=
  forEach_only (fun p s => queueCell_only p c s) ps s

theorem forwardCell_only (a : Nat) (c : Cell) (s : State) : Only [.queues] s (forwardCell a c s) := by
  unfold forwardCell
  split
  · exact Only.refl _ s
  · split
    · exact Only.refl _ s
    · exact queueCell_only _ _ s

theorem sendRouted_only (k a : Nat) (b : List Byte) (s : State) : Only [.queues] s (sendRouted k a b s) := by
  unfold sendRouted
  split
  · exact Only.refl _ s
  · split
    · exact Only.refl _ s
    · exact queueCell_only _ _ s

theorem eventNotice_only (b : List Byte) (s : State) : Only [.queues] s (eventNotice b s) := by
  unfold eventNotice
  split
  · exact Only.refl _ s
  · exact sendRouted_only _ _ _ s

theorem portNotice_only (p : Nat) (u : Bool) (s : State) : Only [.queues] s (portNotice p u s) := eventNotice_only _ s
theorem alarmNotice_only (f : Nat) (k : Option AlarmKind) (s : State) : Only [.queues] s (alarmNotice f k s) :=
  eventNotice_only _ s
theorem ampNotice_only (g : Nat) (r : Option FaultReason) (s : State) : Only [.queues] s (ampNotice g r s) :=
  eventNotice_only _ s
theorem sensorNotice_only (n : Nat) (b : Bool) (s : State) : Only [.queues] s (sensorNotice n b s) := eventNotice_only _ s

/-! Setters of whole blocks -/

theorem setStreams_only (x : List Stream) (s : State) : Only [.streams] s (s.setStreams x) := by
  intro q hq
  cases q <;> simp_all [Part.same, State.setStreams]

theorem setNode_only (x : Node) (s : State) : Only [.node] s (s.setNode x) := by
  intro q hq
  cases q <;> simp_all [Part.same, State.setNode]

theorem setClaims_only (x : Claims) (s : State) : Only [.claims] s (s.setClaims x) := by
  intro q hq
  cases q <;> simp_all [Part.same, State.setClaims]

theorem setPins_only (x : Pins) (s : State) : Only [.pins] s (s.setPins x) := by
  intro q hq
  cases q <;> simp_all [Part.same, State.setPins]

theorem setPending_only (x : List Instr) (s : State) : Only [.pending] s (s.setPending x) := by
  intro q hq
  cases q <;> simp_all [Part.same, State.setPending]

theorem modClaim_only (c : Nat) (f : Claim → Claim) (s : State) : Only [.claims] s (s.modClaim c f) := setClaims_only _ s

theorem setList_only (z : Nat) (l : List Nat) (s : State) : Only [.claims] s (setList z l s) := setClaims_only _ s

theorem refreshGrants_only (s : State) : Only [.claims] s (refreshGrants s) := setClaims_only _ s

theorem modVoice_only (v : Nat) (f : Voice → Voice) (s : State) : Only [.voices] s (s.modVoice v f) := by
  intro q hq
  cases q <;> simp_all [Part.same, State.modVoice, State.setTone]

theorem freeVoice_only (v : Nat) (s : State) : Only [.voices] s (freeVoice v s) := modVoice_only _ _ s

theorem startVoice_only (v : Nat) (h : Holder) (cad : Nat) (s : State) : Only [.voices] s (startVoice v h cad s) := by
  unfold startVoice
  exact modVoice_only _ _ s

theorem releaseChime_only (cl : Claim) (s : State) : Only [.voices] s (releaseChime cl s) := by
  unfold releaseChime
  split
  · exact freeVoice_only _ s
  · exact Only.refl _ s

/-! Claims -/

/-- What the arbiter's operations may change. -/
def arbiterParts : List Part := [.claims, .voices]

theorem endClaim_only (r : EndReason) (c : Nat) (e : Ev) : Only arbiterParts e.st (endClaim r c e).st := by
  unfold endClaim
  split
  · exact Only.refl _ _
  · exact ((releaseChime_only _ e.st).mono (by decide)).trans ((setClaims_only _ _).mono (by decide))

theorem modClaim_arbiter (c : Nat) (f : Claim → Claim) (s : State) : Only arbiterParts s (s.modClaim c f) :=
  (modClaim_only c f s).mono (by decide)

theorem releaseChime_arbiter (cl : Claim) (s : State) : Only arbiterParts s (releaseChime cl s) :=
  (releaseChime_only cl s).mono (by decide)

theorem loseHead_only (b : Bool) (c : Nat) (e : Ev) : Only arbiterParts e.st (loseHead b c e).st := by
  unfold loseHead
  split
  · exact Only.refl _ _
  · split
    · split
      · exact Only.refl _ _
      · exact Only.refl _ _
      · split
        · split
          · exact endClaim_only _ _ _
          · exact modClaim_arbiter _ _ _
        · exact modClaim_arbiter _ _ _
      · split
        · exact endClaim_only _ _ _
        · exact (releaseChime_arbiter _ _).trans (modClaim_arbiter _ _ _)
    · exact Only.refl _ _

/-- A loop over events changes only what its body changes. -/
theorem forUpTo_ev_only {l : List Part} {f : Nat → Ev → Ev} (h : ∀ i e, Only l e.st (f i e).st) (n : Nat) (e : Ev) :
    Only l e.st (forUpTo n f e).st := by
  unfold forUpTo
  generalize List.range n = xs
  induction xs generalizing e with
  | nil => exact Only.refl l _
  | cons x xs ih => exact (h x e).trans (ih (f x e))

theorem loseHeads_only (b : Bool) (e : Ev) : Only arbiterParts e.st (loseHeads b e).st :=
  forUpTo_ev_only (loseHead_only b) _ e

theorem startClaim_only (c : Nat) (s : State) : Only [.claims] s (startClaim c s) := by
  unfold startClaim
  repeat' split
  all_goals first | exact Only.refl _ _ | exact modClaim_only _ _ _

theorem startClaims_only (s : State) : Only [.claims] s (startClaims s) := forUpTo_only startClaim_only _ s

/-! Voices -/

theorem stopSignal_only (k : AlarmKind) (s : State) : Only [.voices] s (stopSignal k s) := by
  unfold stopSignal
  repeat' split
  all_goals first | exact Only.refl _ _ | exact freeVoice_only _ _

theorem stopSignals_only (s : State) : Only [.voices] s (stopSignals s) := forEach_only stopSignal_only _ s

theorem startVoice_arbiter (v : Nat) (h : Holder) (cad : Nat) (s : State) : Only arbiterParts s (startVoice v h cad s) :=
  (startVoice_only v h cad s).mono (by decide)

theorem beginSignal_only (k : AlarmKind) (s : State) : Only arbiterParts s (beginSignal k s) := by
  unfold beginSignal
  repeat' split
  all_goals first
    | exact Only.refl _ _
    | exact startVoice_arbiter _ _ _ _
    | exact (modClaim_arbiter _ _ _).trans (startVoice_arbiter _ _ _ _)

theorem beginSignals_only (s : State) : Only arbiterParts s (beginSignals s) := forEach_only beginSignal_only _ s

theorem beginChime_only (c cad : Nat) (s : State) : Only arbiterParts s (beginChime c cad s) := by
  unfold beginChime
  repeat' split
  all_goals first
    | exact modClaim_arbiter _ _ _
    | exact (modClaim_arbiter _ _ _).trans (startVoice_arbiter _ _ _ _)

theorem endWake_only (c : Nat) (s : State) : Only arbiterParts s (endWake c s) := by
  unfold endWake
  repeat' split
  all_goals first
    | exact Only.refl _ _
    | exact modClaim_arbiter _ _ _
    | exact beginChime_only _ _ _

theorem endWakes_only (s : State) : Only arbiterParts s (endWakes s) := forUpTo_only endWake_only _ s

/-! Amp groups -/

/-- A change of an amp group that keeps its settings and its inputs. -/
def KeepsAmp (f : Amp → Amp) : Prop :=
  ∀ a, Part.same.ampSettings (f a) = Part.same.ampSettings a ∧ (f a).readyIn = a.readyIn ∧ (f a).faultIn = a.faultIn

theorem KeepsAmp.comp {f g : Amp → Amp} (hf : KeepsAmp f) (hg : KeepsAmp g) : KeepsAmp (fun a => f (g a)) := fun a =>
  ⟨(hf _).1.trans (hg a).1, (hf _).2.1.trans (hg a).2.1, (hf _).2.2.trans (hg a).2.2⟩

theorem deepen_keeps (d : Nat) : KeepsAmp (deepen d) := by
  intro a
  unfold deepen
  repeat' split
  all_goals exact ⟨rfl, rfl, rfl⟩

theorem judgeIdle_keeps (p : Nat) : KeepsAmp (judgeIdle p) := by
  intro a
  unfold judgeIdle
  repeat' split
  all_goals first | exact ⟨rfl, rfl, rfl⟩ | exact deepen_keeps _ a

theorem judgeDemoted_keeps : KeepsAmp judgeDemoted := by
  intro a
  unfold judgeDemoted
  repeat' split
  all_goals exact ⟨rfl, rfl, rfl⟩

theorem wakeDone_keeps (p : Nat) : KeepsAmp (wakeDone p) := fun _ => judgeIdle_keeps p _

theorem startWake_keeps (p l : Nat) : KeepsAmp (startWake p l) := by
  intro a
  unfold startWake
  dsimp only
  split
  · exact wakeDone_keeps p _
  · exact ⟨rfl, rfl, rfl⟩

theorem demandAppears_keeps (p : Nat) : KeepsAmp (demandAppears p) := by
  intro a
  unfold demandAppears
  dsimp only
  split
  · exact ⟨rfl, rfl, rfl⟩
  · exact ⟨rfl, rfl, rfl⟩
  · exact startWake_keeps _ _ _
  · exact startWake_keeps _ _ _
  · exact ⟨rfl, rfl, rfl⟩
  · exact ⟨rfl, rfl, rfl⟩

theorem demandLost_keeps (p : Nat) : KeepsAmp (demandLost p) := by
  intro a
  unfold demandLost
  dsimp only
  split
  · exact judgeIdle_keeps p _
  · exact judgeIdle_keeps p _
  · exact ⟨rfl, rfl, rfl⟩

theorem modAmp_only {f : Amp → Amp} (hf : KeepsAmp f) (g : Nat) (s : State) : Only [.ampStates] s (s.modAmp g f) := by
  intro q hq
  cases q <;> simp_all [Part.same, State.modAmp, State.setPower]
  · exact map_modify_view _ _ (fun a => (hf a).1) _ _
  · exact map_modify_view _ _ (fun a => by rw [(hf a).2.1, (hf a).2.2]) _ _

theorem updateDemand_only (g : Nat) (s : State) : Only [.ampStates] s (updateDemand g s) := by
  unfold updateDemand
  dsimp only
  split
  · exact Only.refl _ s
  · apply modAmp_only
    split
    · exact demandAppears_keeps _
    · exact demandLost_keeps _

theorem updateDemands_only (s : State) : Only [.ampStates] s (updateDemands s) := forUpTo_only updateDemand_only _ s

/-- What an entry into FAULT or a leaving of it may change. -/
def faultParts : List Part := [.ampStates, .queues]

theorem ampNotice_fault (g : Nat) (r : Option FaultReason) (s : State) : Only faultParts s (ampNotice g r s) :=
  (ampNotice_only g r s).mono (by decide)

theorem modAmp_fault {f : Amp → Amp} (hf : KeepsAmp f) (g : Nat) (s : State) : Only faultParts s (s.modAmp g f) :=
  (modAmp_only hf g s).mono (by decide)

theorem enterFault_only (g : Nat) (r : FaultReason) (s : State) : Only faultParts s (enterFault g r s) := by
  unfold enterFault
  dsimp only
  repeat' split
  all_goals first
    | exact Only.refl _ s
    | refine Only.trans (modAmp_fault ?_ _ _) (ampNotice_fault _ _ _); exact fun _ => ⟨rfl, rfl, rfl⟩

theorem leaveFault_only (g : Nat) (s : State) : Only faultParts s (leaveFault g s) :=
  (modAmp_fault (fun a => startWake_keeps _ _ a) _ _).trans (ampNotice_fault _ _ _)

theorem autoLeave_only (g : Nat) (s : State) : Only faultParts s (autoLeave g s) := by
  unfold autoLeave
  dsimp only
  split
  · exact leaveFault_only _ _
  · exact Only.refl _ s

/-! Zones and windows -/

theorem refreshZones_only (s : State) : Only [.layers] s (refreshZones s) := by
  intro q hq
  cases q <;> simp_all [Part.same, refreshZones, State.setZones]
  all_goals
    apply List.ext_getElem <;> simp
    intro i hi
    cases s.zones[i] <;> rfl

theorem modWindow_only {f : Window → Window} (h : ∀ w, { f w with zones := [] } = { w with zones := [] }) (s : State) :
    Only [.windowMarks] s (modWindow f s) := by
  intro q hq
  cases q <;> simp_all [Part.same, modWindow, State.setAmbient, Scan.measuring]
  cases s.ambient.scan.window <;> simp [h]

theorem markContaminated_only (s : State) : Only [.windowMarks] s (markContaminated s) := by
  unfold markContaminated
  exact modWindow_only (by intro w; rfl) s

theorem dropFromWindow_only (z : Nat) (s : State) : Only [.windowMarks] s (dropFromWindow z s) := by
  unfold dropFromWindow
  exact modWindow_only (by intro w; rfl) s

/-! Talk groups -/

theorem sendNote_only (n : Note) (s : State) : Only [.queues] s (sendNote n s) := sendRouted_only _ _ _ s

theorem sendNotes_only (l : List Note) (s : State) : Only [.queues] s (sendNotes l s) := forEach_only sendNote_only l s

/-- A change of a talk group that keeps its limit and its members' records. -/
def KeepsGroup (f : Group → Group) : Prop :=
  ∀ g, (f g).limit = g.limit ∧ (f g).members.map Member.record = g.members.map Member.record

theorem modMember_keeps (i : Nat) (f : Member → Member) (h : ∀ m, (f m).record = m.record) (g : Group) :
    (g.modMember i f).members.map Member.record = g.members.map Member.record := map_modify_view _ _ h _ _

theorem letTalk_keeps (i : Nat) : KeepsGroup (Group.letTalk i) := by
  intro g
  exact ⟨rfl, map_modify_view Member.record _ (by intro m; rfl) _ _⟩

theorem release_keeps (i : Nat) : KeepsGroup (Group.release i) := by
  intro g
  exact ⟨rfl, map_modify_view Member.record _ (by intro m; rfl) _ _⟩

theorem suspend_keeps (i : Nat) : KeepsGroup (Group.suspend i) := by
  intro g
  exact ⟨rfl, map_modify_view Member.record _ (by intro m; rfl) _ _⟩

theorem resume_keeps (i : Nat) : KeepsGroup (Group.resume i) := by
  intro g
  exact ⟨rfl, map_modify_view Member.record _ (by intro m; rfl) _ _⟩


theorem Member.rekey_record (m : Member) : m.rekey.record = m.record := by
  unfold Member.rekey
  split <;> rfl

theorem rekey_keeps (i : Nat) : KeepsGroup (Group.modMember i Member.rekey) :=
  fun g => ⟨rfl, modMember_keeps i _ Member.rekey_record g⟩

theorem dropAll_keeps : KeepsGroup Group.dropAll := by
  intro g
  refine ⟨rfl, map_map_view _ _ (fun m => ?_) _⟩
  unfold Member.drop
  split <;> rfl

theorem modGroup_only {f : Group → Group} (hf : KeepsGroup f) (g : Nat) (s : State) :
    Only [.talkers] s (s.modGroup g f) := by
  intro q hq
  cases q <;> simp_all [Part.same, State.modGroup, State.setTalk]
  exact map_modify_view _ _ (fun g => by rw [(hf g).1, (hf g).2]) _ _

/-- A fold that pairs a state with notices changes only what its body changes. -/
theorem foldl_notes_only {α : Type} {l : List Part} (f : State × List Note → α → State × List Note)
    (h : ∀ acc a, Only l acc.1 (f acc a).1) (xs : List α) (acc : State × List Note) : Only l acc.1 (xs.foldl f acc).1 := by
  induction xs generalizing acc with
  | nil => exact Only.refl l _
  | cons x xs ih => exact (h acc x).trans (ih (f acc x))

theorem resumeMembers_only (fell : Nat → Bool) (s : State) : Only [.talkers] s (resumeMembers fell s).1 := by
  unfold resumeMembers
  refine foldl_notes_only _ (fun acc t => ?_) _ (s, [])
  split
  · refine modGroup_only ?_ _ _
    split
    · exact resume_keeps _
    · exact release_keeps _
  · exact Only.refl _ _

theorem suspendMembers_only (rose : Nat → Bool) (s : State) : Only [.talkers] s (suspendMembers rose s).1 := by
  unfold suspendMembers
  refine foldl_notes_only _ (fun acc t => ?_) _ (s, [])
  split
  · exact modGroup_only (suspend_keeps _) _ _
  · exact Only.refl _ _

/-- What a change of calling counts may change. -/
def callingParts : List Part := [.talkers, .calling, .queues]

theorem setCalling_only (x : List Nat) (s : State) : Only [.calling] s (s.setTalk { s.talk with calling := x }) := by
  intro q hq
  cases q <;> simp_all [Part.same, State.setTalk]

theorem updateCalling_only (before s : State) : Only callingParts s (updateCalling before s) := by
  unfold updateCalling
  dsimp only
  refine Only.trans ?_ ((sendNotes_only _ _).mono (by decide))
  refine Only.trans ?_ ((setCalling_only _ _).mono (by decide))
  exact ((resumeMembers_only _ _).mono (by decide)).trans
    ((suspendMembers_only _ _).mono (by decide))

/-! Status lines, the show-stop latch, HOLD -/

theorem updateLines_only (before s : State) : Only [.lines] s (updateLines before s) := by
  intro q hq
  cases q <;> simp_all [Part.same, updateLines, State.setShow]

theorem judgeHold_only (s : State) : Only [.hold] s (judgeHold s) := by
  intro q hq
  cases q <;> simp_all [Part.same, judgeHold, State.setShow]

/-- What a change of the show-stop latch may change. -/
def latchParts : List Part := [.showStop, .autoFollow, .held]

theorem setShowStop_only (s : State) : Only latchParts s (setShowStop s) := by
  unfold setShowStop
  split
  · exact Only.refl _ s
  · intro q hq
    cases q <;> simp_all [Part.same, State.setShow, State.setZones, latchParts]
    all_goals
      intro o _
      cases o <;> simp
      split <;> simp_all [Part.same.settings, Part.same.layers, Part.same.coefs, Part.same.comp]

theorem clearShowStop_only (s : State) : Only [.showStop, .held] s (clearShowStop s) := by
  unfold clearShowStop
  split
  · intro q hq
    cases q <;> simp_all [Part.same, State.setShow, State.setZones]
    all_goals
      intro o _
      cases o <;> simp
      split <;> simp_all [Part.same.settings, Part.same.layers, Part.same.coefs, Part.same.comp]
  · exact Only.refl _ s

/-! Alarms -/

/-- What resolution may change. -/
def resolveParts : List Part := [.resolved, .queues]

theorem resolveZone_only (i : Nat) (s : State) : Only resolveParts s (resolveZone i s) := by
  unfold resolveZone
  dsimp only
  split
  · exact Only.refl _ s
  · refine Only.trans ?_ ((alarmNotice_only _ _ _).mono (by decide))
    intro q hq
    cases q <;> simp_all [Part.same, State.modFire, State.setAlarm, resolveParts]
    exact map_modify_view _ _ (by intro f; rfl) _ _

theorem resolveAll_only (s : State) : Only resolveParts s (resolveAll s) := forUpTo_only resolveZone_only _ s

/-- What the application of resolved kinds may change. -/
def applyParts : List Part := [.applied, .showStop, .autoFollow, .held]

theorem applyAll_only (s : State) : Only applyParts s (applyAll s) := by
  unfold applyAll
  dsimp only
  have h : Only applyParts s
      (s.setZones (s.zones.map (Option.map (fun zn => { zn with applied := appliedKind s zn })))) := by
    intro q hq
    cases q <;> simp_all [Part.same, State.setZones, applyParts]
    all_goals
      intro o _
      cases o <;> rfl
  split
  · exact h.trans ((setShowStop_only _).mono (by decide))
  · exact h

theorem computeBeacon_only (s : State) : Only [.fireSources] s (computeBeacon s) := by
  intro q hq
  cases q <;> simp_all [Part.same, computeBeacon, State.setAlarm]
  exact map_mapIdx_view _ _ (by intro i f; rfl) _

theorem setIslandHold_only (b : Bool) (s : State) : Only [.islandHold] s (setIslandHold b s) := by
  intro q hq
  cases q <;> simp_all [Part.same, setIslandHold, State.setAlarm]

/-! The settling of an event -/

/-- What settling may change before the event is closed. -/
def settleParts : List Part := [.claims, .voices, .ampStates]

theorem settle_only (b : Bool) (e : Ev) : Only settleParts e.st (settle b e).st := by
  unfold settle
  dsimp only [Ev.on]
  refine ((stopSignals_only e.st).mono (by decide)).trans ?_
  refine ((loseHeads_only b { e with st := stopSignals e.st }).mono (by decide)).trans ?_
  refine ((beginSignals_only _).mono (by decide)).trans ?_
  refine ((startClaims_only _).mono (by decide)).trans ?_
  refine ((updateDemands_only _).mono (by decide)).trans ?_
  exact (endWakes_only _).mono (by decide)

theorem claimNotice_only (c : Nat) (cl : Claim) (st : Nat) (r : Option EndReason) (a : Nat) (s : State) :
    Only [.queues] s (claimNotice c cl st r a s) := queueCell_only _ _ s

theorem noticeFor_only (before : State) (ended : List Ended) (c : Nat) (s : State) :
    Only [.queues] s (noticeFor before ended c s) := by
  unfold noticeFor
  repeat' split
  all_goals first | exact Only.refl _ s | exact claimNotice_only _ _ _ _ _ s

theorem claimNotices_only (before : State) (ended : List Ended) (s : State) :
    Only [.queues] s (claimNotices before ended s) := forUpTo_only (noticeFor_only before ended) _ s

theorem close_only (before : State) (e : Ev) : Only settling e.st (close before e) := by
  unfold close
  dsimp only
  refine ((refreshGrants_only e.st).mono (by decide)).trans ?_
  refine ((refreshZones_only _).mono (by decide)).trans ?_
  refine ((markContaminated_only _).mono (by decide)).trans ?_
  refine ((claimNotices_only before e.ended _).mono (by decide)).trans ?_
  refine ((updateCalling_only before _).mono (by decide)).trans ?_
  exact (updateLines_only before _).mono (by decide)

/-! The contamination marks -/

/-- What keeps the layer modes keeps which zones stand outside NORMAL. -/
theorem Only.outsideNormal {l : List Part} {s t : State} (h : Only l s t) (hl : Part.layers ∉ l) (z : Nat) :
    (t.zone z).any (fun n => n.mode != .normal) = (s.zone z).any (fun n => n.mode != .normal) := by
  have view : ∀ u : State, (u.zone z).any (fun n => n.mode != .normal) =
      ((u.zones.map (Option.map Part.same.layers)).getD z none).any (fun x => x.1 != .normal) := by
    intro u
    simp only [State.zone, List.getD_eq_getElem?_getD, List.getElem?_map]
    cases u.zones[z]? with
    | none => rfl
    | some o => cases o <;> rfl
  rw [view, view, show t.zones.map (Option.map Part.same.layers) = _ from h .layers hl]

/-- What comes behind an event that left its marks, and changes neither them nor the layer modes, leaves them so. -/
theorem MarksFollow.only {gone : List Nat} {l : List Part} {s t u : State} (h : MarksFollow gone s t) (hu : Only l t u)
    (hm : Part.windowMarks ∉ l) (hl : Part.layers ∉ l) : MarksFollow gone s u := by
  unfold MarksFollow at h ⊢
  simp only [hu.outsideNormal hl]
  exact (hu .windowMarks hm).trans h

/-- R179: the closing of an event that has not touched the marks marks the zones that it leaves outside NORMAL. -/
theorem close_marksFollow {l : List Part} {s : State} (before : State) (e : Ev) (h : Only l s e.st) (hm : Part.windowMarks ∉ l) :
    MarksFollow [] s (close before e) := by
  have marked : ∀ u, u.ambient.scan.window.map Window.zones = s.ambient.scan.window.map Window.zones →
      MarksFollow [] s (markContaminated u) := by
    intro u hu
    unfold MarksFollow
    simp only [(markContaminated_only u).outsideNormal (by decide)]
    cases hw : u.ambient.scan.window <;> cases hv : s.ambient.scan.window <;> rw [hw, hv] at hu <;>
      simp_all [markContaminated, modWindow, contaminating, State.setAmbient]
  have kept := ((refreshZones_only (refreshGrants e.st)) .windowMarks (by decide)).trans
    (((refreshGrants_only e.st) .windowMarks (by decide)).trans (h .windowMarks hm))
  have noticed := (marked _ kept).only (claimNotices_only before e.ended _) (by decide) (by decide)
  exact (noticed.only (updateCalling_only before _) (by decide) (by decide)).only (updateLines_only before _) (by decide) (by decide)

/-! The whole of an event -/

theorem closeSettle_only (b : Bool) (before : State) (e : Ev) : Only settling e.st (close before (settle b e)) :=
  ((settle_only b e).mono (by decide)).trans (close_only before _)

theorem conclude_only (before s : State) : Only settling s (conclude before s) :=
  closeSettle_only false before { st := s, ended := [] }

theorem settling_applying : ∀ p ∈ settling, p ∈ applying := fun _ hp => List.mem_append_left _ hp

theorem applying_alarming : ∀ p ∈ applying, p ∈ alarming := fun _ hp => List.mem_append_left _ hp

theorem settling_alarming : ∀ p ∈ settling, p ∈ alarming := fun p hp => applying_alarming p (settling_applying p hp)

theorem concludeApplied_only (before s : State) : Only applying s (concludeApplied before s) := by
  have h : Only applying s (applyAll s) := (applyAll_only s).mono (by decide)
  unfold concludeApplied
  generalize applyAll s = u at h ⊢
  exact h.trans ((closeSettle_only true before { st := u, ended := [] }).mono settling_applying)

theorem concludeAlarm_only (before s : State) : Only alarming s (concludeAlarm before s) := by
  have h : Only alarming s (resolveAll s) := (resolveAll_only s).mono (by decide)
  unfold concludeAlarm
  generalize resolveAll s = u at h ⊢
  exact h.trans ((concludeApplied_only before u).mono applying_alarming)

end Sys2Proof.Machine
end

