-- ==== Sys2Proof/Laws/State.lean ====
section
/-! SUPPORT. Every field of the state after every setter: the one that was set holds the new value, every other the old one. -/

namespace Sys2Proof.Machine

variable (s : State)

@[simp] theorem State.setPorts_ports (x : List Port) : (s.setPorts x).ports = x := rfl
@[simp] theorem State.setPorts_streams (x : List Port) : (s.setPorts x).streams = s.streams := rfl
@[simp] theorem State.setPorts_node (x : List Port) : (s.setPorts x).node = s.node := rfl
@[simp] theorem State.setPorts_buses (x : List Port) : (s.setPorts x).buses = s.buses := rfl
@[simp] theorem State.setPorts_zones (x : List Port) : (s.setPorts x).zones = s.zones := rfl
@[simp] theorem State.setPorts_claims (x : List Port) : (s.setPorts x).claims = s.claims := rfl
@[simp] theorem State.setPorts_tone (x : List Port) : (s.setPorts x).tone = s.tone := rfl
@[simp] theorem State.setPorts_alarm (x : List Port) : (s.setPorts x).alarm = s.alarm := rfl
@[simp] theorem State.setPorts_talk (x : List Port) : (s.setPorts x).talk = s.talk := rfl
@[simp] theorem State.setPorts_showCtl (x : List Port) : (s.setPorts x).showCtl = s.showCtl := rfl
@[simp] theorem State.setPorts_ambient (x : List Port) : (s.setPorts x).ambient = s.ambient := rfl
@[simp] theorem State.setPorts_power (x : List Port) : (s.setPorts x).power = s.power := rfl
@[simp] theorem State.setPorts_pins (x : List Port) : (s.setPorts x).pins = s.pins := rfl
@[simp] theorem State.setPorts_pending (x : List Port) : (s.setPorts x).pending = s.pending := rfl

@[simp] theorem State.setStreams_ports (x : List Stream) : (s.setStreams x).ports = s.ports := rfl
@[simp] theorem State.setStreams_streams (x : List Stream) : (s.setStreams x).streams = x := rfl
@[simp] theorem State.setStreams_node (x : List Stream) : (s.setStreams x).node = s.node := rfl
@[simp] theorem State.setStreams_buses (x : List Stream) : (s.setStreams x).buses = s.buses := rfl
@[simp] theorem State.setStreams_zones (x : List Stream) : (s.setStreams x).zones = s.zones := rfl
@[simp] theorem State.setStreams_claims (x : List Stream) : (s.setStreams x).claims = s.claims := rfl
@[simp] theorem State.setStreams_tone (x : List Stream) : (s.setStreams x).tone = s.tone := rfl
@[simp] theorem State.setStreams_alarm (x : List Stream) : (s.setStreams x).alarm = s.alarm := rfl
@[simp] theorem State.setStreams_talk (x : List Stream) : (s.setStreams x).talk = s.talk := rfl
@[simp] theorem State.setStreams_showCtl (x : List Stream) : (s.setStreams x).showCtl = s.showCtl := rfl
@[simp] theorem State.setStreams_ambient (x : List Stream) : (s.setStreams x).ambient = s.ambient := rfl
@[simp] theorem State.setStreams_power (x : List Stream) : (s.setStreams x).power = s.power := rfl
@[simp] theorem State.setStreams_pins (x : List Stream) : (s.setStreams x).pins = s.pins := rfl
@[simp] theorem State.setStreams_pending (x : List Stream) : (s.setStreams x).pending = s.pending := rfl

@[simp] theorem State.setNode_ports (x : Node) : (s.setNode x).ports = s.ports := rfl
@[simp] theorem State.setNode_streams (x : Node) : (s.setNode x).streams = s.streams := rfl
@[simp] theorem State.setNode_node (x : Node) : (s.setNode x).node = x := rfl
@[simp] theorem State.setNode_buses (x : Node) : (s.setNode x).buses = s.buses := rfl
@[simp] theorem State.setNode_zones (x : Node) : (s.setNode x).zones = s.zones := rfl
@[simp] theorem State.setNode_claims (x : Node) : (s.setNode x).claims = s.claims := rfl
@[simp] theorem State.setNode_tone (x : Node) : (s.setNode x).tone = s.tone := rfl
@[simp] theorem State.setNode_alarm (x : Node) : (s.setNode x).alarm = s.alarm := rfl
@[simp] theorem State.setNode_talk (x : Node) : (s.setNode x).talk = s.talk := rfl
@[simp] theorem State.setNode_showCtl (x : Node) : (s.setNode x).showCtl = s.showCtl := rfl
@[simp] theorem State.setNode_ambient (x : Node) : (s.setNode x).ambient = s.ambient := rfl
@[simp] theorem State.setNode_power (x : Node) : (s.setNode x).power = s.power := rfl
@[simp] theorem State.setNode_pins (x : Node) : (s.setNode x).pins = s.pins := rfl
@[simp] theorem State.setNode_pending (x : Node) : (s.setNode x).pending = s.pending := rfl

@[simp] theorem State.setBuses_ports (x : List Bus) : (s.setBuses x).ports = s.ports := rfl
@[simp] theorem State.setBuses_streams (x : List Bus) : (s.setBuses x).streams = s.streams := rfl
@[simp] theorem State.setBuses_node (x : List Bus) : (s.setBuses x).node = s.node := rfl
@[simp] theorem State.setBuses_buses (x : List Bus) : (s.setBuses x).buses = x := rfl
@[simp] theorem State.setBuses_zones (x : List Bus) : (s.setBuses x).zones = s.zones := rfl
@[simp] theorem State.setBuses_claims (x : List Bus) : (s.setBuses x).claims = s.claims := rfl
@[simp] theorem State.setBuses_tone (x : List Bus) : (s.setBuses x).tone = s.tone := rfl
@[simp] theorem State.setBuses_alarm (x : List Bus) : (s.setBuses x).alarm = s.alarm := rfl
@[simp] theorem State.setBuses_talk (x : List Bus) : (s.setBuses x).talk = s.talk := rfl
@[simp] theorem State.setBuses_showCtl (x : List Bus) : (s.setBuses x).showCtl = s.showCtl := rfl
@[simp] theorem State.setBuses_ambient (x : List Bus) : (s.setBuses x).ambient = s.ambient := rfl
@[simp] theorem State.setBuses_power (x : List Bus) : (s.setBuses x).power = s.power := rfl
@[simp] theorem State.setBuses_pins (x : List Bus) : (s.setBuses x).pins = s.pins := rfl
@[simp] theorem State.setBuses_pending (x : List Bus) : (s.setBuses x).pending = s.pending := rfl

@[simp] theorem State.setZones_ports (x : List (Option Zone)) : (s.setZones x).ports = s.ports := rfl
@[simp] theorem State.setZones_streams (x : List (Option Zone)) : (s.setZones x).streams = s.streams := rfl
@[simp] theorem State.setZones_node (x : List (Option Zone)) : (s.setZones x).node = s.node := rfl
@[simp] theorem State.setZones_buses (x : List (Option Zone)) : (s.setZones x).buses = s.buses := rfl
@[simp] theorem State.setZones_zones (x : List (Option Zone)) : (s.setZones x).zones = x := rfl
@[simp] theorem State.setZones_claims (x : List (Option Zone)) : (s.setZones x).claims = s.claims := rfl
@[simp] theorem State.setZones_tone (x : List (Option Zone)) : (s.setZones x).tone = s.tone := rfl
@[simp] theorem State.setZones_alarm (x : List (Option Zone)) : (s.setZones x).alarm = s.alarm := rfl
@[simp] theorem State.setZones_talk (x : List (Option Zone)) : (s.setZones x).talk = s.talk := rfl
@[simp] theorem State.setZones_showCtl (x : List (Option Zone)) : (s.setZones x).showCtl = s.showCtl := rfl
@[simp] theorem State.setZones_ambient (x : List (Option Zone)) : (s.setZones x).ambient = s.ambient := rfl
@[simp] theorem State.setZones_power (x : List (Option Zone)) : (s.setZones x).power = s.power := rfl
@[simp] theorem State.setZones_pins (x : List (Option Zone)) : (s.setZones x).pins = s.pins := rfl
@[simp] theorem State.setZones_pending (x : List (Option Zone)) : (s.setZones x).pending = s.pending := rfl

@[simp] theorem State.setClaims_ports (x : Claims) : (s.setClaims x).ports = s.ports := rfl
@[simp] theorem State.setClaims_streams (x : Claims) : (s.setClaims x).streams = s.streams := rfl
@[simp] theorem State.setClaims_node (x : Claims) : (s.setClaims x).node = s.node := rfl
@[simp] theorem State.setClaims_buses (x : Claims) : (s.setClaims x).buses = s.buses := rfl
@[simp] theorem State.setClaims_zones (x : Claims) : (s.setClaims x).zones = s.zones := rfl
@[simp] theorem State.setClaims_claims (x : Claims) : (s.setClaims x).claims = x := rfl
@[simp] theorem State.setClaims_tone (x : Claims) : (s.setClaims x).tone = s.tone := rfl
@[simp] theorem State.setClaims_alarm (x : Claims) : (s.setClaims x).alarm = s.alarm := rfl
@[simp] theorem State.setClaims_talk (x : Claims) : (s.setClaims x).talk = s.talk := rfl
@[simp] theorem State.setClaims_showCtl (x : Claims) : (s.setClaims x).showCtl = s.showCtl := rfl
@[simp] theorem State.setClaims_ambient (x : Claims) : (s.setClaims x).ambient = s.ambient := rfl
@[simp] theorem State.setClaims_power (x : Claims) : (s.setClaims x).power = s.power := rfl
@[simp] theorem State.setClaims_pins (x : Claims) : (s.setClaims x).pins = s.pins := rfl
@[simp] theorem State.setClaims_pending (x : Claims) : (s.setClaims x).pending = s.pending := rfl

@[simp] theorem State.setTone_ports (x : Tone) : (s.setTone x).ports = s.ports := rfl
@[simp] theorem State.setTone_streams (x : Tone) : (s.setTone x).streams = s.streams := rfl
@[simp] theorem State.setTone_node (x : Tone) : (s.setTone x).node = s.node := rfl
@[simp] theorem State.setTone_buses (x : Tone) : (s.setTone x).buses = s.buses := rfl
@[simp] theorem State.setTone_zones (x : Tone) : (s.setTone x).zones = s.zones := rfl
@[simp] theorem State.setTone_claims (x : Tone) : (s.setTone x).claims = s.claims := rfl
@[simp] theorem State.setTone_tone (x : Tone) : (s.setTone x).tone = x := rfl
@[simp] theorem State.setTone_alarm (x : Tone) : (s.setTone x).alarm = s.alarm := rfl
@[simp] theorem State.setTone_talk (x : Tone) : (s.setTone x).talk = s.talk := rfl
@[simp] theorem State.setTone_showCtl (x : Tone) : (s.setTone x).showCtl = s.showCtl := rfl
@[simp] theorem State.setTone_ambient (x : Tone) : (s.setTone x).ambient = s.ambient := rfl
@[simp] theorem State.setTone_power (x : Tone) : (s.setTone x).power = s.power := rfl
@[simp] theorem State.setTone_pins (x : Tone) : (s.setTone x).pins = s.pins := rfl
@[simp] theorem State.setTone_pending (x : Tone) : (s.setTone x).pending = s.pending := rfl

@[simp] theorem State.setAlarm_ports (x : Alarm) : (s.setAlarm x).ports = s.ports := rfl
@[simp] theorem State.setAlarm_streams (x : Alarm) : (s.setAlarm x).streams = s.streams := rfl
@[simp] theorem State.setAlarm_node (x : Alarm) : (s.setAlarm x).node = s.node := rfl
@[simp] theorem State.setAlarm_buses (x : Alarm) : (s.setAlarm x).buses = s.buses := rfl
@[simp] theorem State.setAlarm_zones (x : Alarm) : (s.setAlarm x).zones = s.zones := rfl
@[simp] theorem State.setAlarm_claims (x : Alarm) : (s.setAlarm x).claims = s.claims := rfl
@[simp] theorem State.setAlarm_tone (x : Alarm) : (s.setAlarm x).tone = s.tone := rfl
@[simp] theorem State.setAlarm_alarm (x : Alarm) : (s.setAlarm x).alarm = x := rfl
@[simp] theorem State.setAlarm_talk (x : Alarm) : (s.setAlarm x).talk = s.talk := rfl
@[simp] theorem State.setAlarm_showCtl (x : Alarm) : (s.setAlarm x).showCtl = s.showCtl := rfl
@[simp] theorem State.setAlarm_ambient (x : Alarm) : (s.setAlarm x).ambient = s.ambient := rfl
@[simp] theorem State.setAlarm_power (x : Alarm) : (s.setAlarm x).power = s.power := rfl
@[simp] theorem State.setAlarm_pins (x : Alarm) : (s.setAlarm x).pins = s.pins := rfl
@[simp] theorem State.setAlarm_pending (x : Alarm) : (s.setAlarm x).pending = s.pending := rfl

@[simp] theorem State.setTalk_ports (x : Talk) : (s.setTalk x).ports = s.ports := rfl
@[simp] theorem State.setTalk_streams (x : Talk) : (s.setTalk x).streams = s.streams := rfl
@[simp] theorem State.setTalk_node (x : Talk) : (s.setTalk x).node = s.node := rfl
@[simp] theorem State.setTalk_buses (x : Talk) : (s.setTalk x).buses = s.buses := rfl
@[simp] theorem State.setTalk_zones (x : Talk) : (s.setTalk x).zones = s.zones := rfl
@[simp] theorem State.setTalk_claims (x : Talk) : (s.setTalk x).claims = s.claims := rfl
@[simp] theorem State.setTalk_tone (x : Talk) : (s.setTalk x).tone = s.tone := rfl
@[simp] theorem State.setTalk_alarm (x : Talk) : (s.setTalk x).alarm = s.alarm := rfl
@[simp] theorem State.setTalk_talk (x : Talk) : (s.setTalk x).talk = x := rfl
@[simp] theorem State.setTalk_showCtl (x : Talk) : (s.setTalk x).showCtl = s.showCtl := rfl
@[simp] theorem State.setTalk_ambient (x : Talk) : (s.setTalk x).ambient = s.ambient := rfl
@[simp] theorem State.setTalk_power (x : Talk) : (s.setTalk x).power = s.power := rfl
@[simp] theorem State.setTalk_pins (x : Talk) : (s.setTalk x).pins = s.pins := rfl
@[simp] theorem State.setTalk_pending (x : Talk) : (s.setTalk x).pending = s.pending := rfl

@[simp] theorem State.setShow_ports (x : ShowCtl) : (s.setShow x).ports = s.ports := rfl
@[simp] theorem State.setShow_streams (x : ShowCtl) : (s.setShow x).streams = s.streams := rfl
@[simp] theorem State.setShow_node (x : ShowCtl) : (s.setShow x).node = s.node := rfl
@[simp] theorem State.setShow_buses (x : ShowCtl) : (s.setShow x).buses = s.buses := rfl
@[simp] theorem State.setShow_zones (x : ShowCtl) : (s.setShow x).zones = s.zones := rfl
@[simp] theorem State.setShow_claims (x : ShowCtl) : (s.setShow x).claims = s.claims := rfl
@[simp] theorem State.setShow_tone (x : ShowCtl) : (s.setShow x).tone = s.tone := rfl
@[simp] theorem State.setShow_alarm (x : ShowCtl) : (s.setShow x).alarm = s.alarm := rfl
@[simp] theorem State.setShow_talk (x : ShowCtl) : (s.setShow x).talk = s.talk := rfl
@[simp] theorem State.setShow_showCtl (x : ShowCtl) : (s.setShow x).showCtl = x := rfl
@[simp] theorem State.setShow_ambient (x : ShowCtl) : (s.setShow x).ambient = s.ambient := rfl
@[simp] theorem State.setShow_power (x : ShowCtl) : (s.setShow x).power = s.power := rfl
@[simp] theorem State.setShow_pins (x : ShowCtl) : (s.setShow x).pins = s.pins := rfl
@[simp] theorem State.setShow_pending (x : ShowCtl) : (s.setShow x).pending = s.pending := rfl

@[simp] theorem State.setAmbient_ports (x : Ambient) : (s.setAmbient x).ports = s.ports := rfl
@[simp] theorem State.setAmbient_streams (x : Ambient) : (s.setAmbient x).streams = s.streams := rfl
@[simp] theorem State.setAmbient_node (x : Ambient) : (s.setAmbient x).node = s.node := rfl
@[simp] theorem State.setAmbient_buses (x : Ambient) : (s.setAmbient x).buses = s.buses := rfl
@[simp] theorem State.setAmbient_zones (x : Ambient) : (s.setAmbient x).zones = s.zones := rfl
@[simp] theorem State.setAmbient_claims (x : Ambient) : (s.setAmbient x).claims = s.claims := rfl
@[simp] theorem State.setAmbient_tone (x : Ambient) : (s.setAmbient x).tone = s.tone := rfl
@[simp] theorem State.setAmbient_alarm (x : Ambient) : (s.setAmbient x).alarm = s.alarm := rfl
@[simp] theorem State.setAmbient_talk (x : Ambient) : (s.setAmbient x).talk = s.talk := rfl
@[simp] theorem State.setAmbient_showCtl (x : Ambient) : (s.setAmbient x).showCtl = s.showCtl := rfl
@[simp] theorem State.setAmbient_ambient (x : Ambient) : (s.setAmbient x).ambient = x := rfl
@[simp] theorem State.setAmbient_power (x : Ambient) : (s.setAmbient x).power = s.power := rfl
@[simp] theorem State.setAmbient_pins (x : Ambient) : (s.setAmbient x).pins = s.pins := rfl
@[simp] theorem State.setAmbient_pending (x : Ambient) : (s.setAmbient x).pending = s.pending := rfl

@[simp] theorem State.setPower_ports (x : Power) : (s.setPower x).ports = s.ports := rfl
@[simp] theorem State.setPower_streams (x : Power) : (s.setPower x).streams = s.streams := rfl
@[simp] theorem State.setPower_node (x : Power) : (s.setPower x).node = s.node := rfl
@[simp] theorem State.setPower_buses (x : Power) : (s.setPower x).buses = s.buses := rfl
@[simp] theorem State.setPower_zones (x : Power) : (s.setPower x).zones = s.zones := rfl
@[simp] theorem State.setPower_claims (x : Power) : (s.setPower x).claims = s.claims := rfl
@[simp] theorem State.setPower_tone (x : Power) : (s.setPower x).tone = s.tone := rfl
@[simp] theorem State.setPower_alarm (x : Power) : (s.setPower x).alarm = s.alarm := rfl
@[simp] theorem State.setPower_talk (x : Power) : (s.setPower x).talk = s.talk := rfl
@[simp] theorem State.setPower_showCtl (x : Power) : (s.setPower x).showCtl = s.showCtl := rfl
@[simp] theorem State.setPower_ambient (x : Power) : (s.setPower x).ambient = s.ambient := rfl
@[simp] theorem State.setPower_power (x : Power) : (s.setPower x).power = x := rfl
@[simp] theorem State.setPower_pins (x : Power) : (s.setPower x).pins = s.pins := rfl
@[simp] theorem State.setPower_pending (x : Power) : (s.setPower x).pending = s.pending := rfl

@[simp] theorem State.setPins_ports (x : Pins) : (s.setPins x).ports = s.ports := rfl
@[simp] theorem State.setPins_streams (x : Pins) : (s.setPins x).streams = s.streams := rfl
@[simp] theorem State.setPins_node (x : Pins) : (s.setPins x).node = s.node := rfl
@[simp] theorem State.setPins_buses (x : Pins) : (s.setPins x).buses = s.buses := rfl
@[simp] theorem State.setPins_zones (x : Pins) : (s.setPins x).zones = s.zones := rfl
@[simp] theorem State.setPins_claims (x : Pins) : (s.setPins x).claims = s.claims := rfl
@[simp] theorem State.setPins_tone (x : Pins) : (s.setPins x).tone = s.tone := rfl
@[simp] theorem State.setPins_alarm (x : Pins) : (s.setPins x).alarm = s.alarm := rfl
@[simp] theorem State.setPins_talk (x : Pins) : (s.setPins x).talk = s.talk := rfl
@[simp] theorem State.setPins_showCtl (x : Pins) : (s.setPins x).showCtl = s.showCtl := rfl
@[simp] theorem State.setPins_ambient (x : Pins) : (s.setPins x).ambient = s.ambient := rfl
@[simp] theorem State.setPins_power (x : Pins) : (s.setPins x).power = s.power := rfl
@[simp] theorem State.setPins_pins (x : Pins) : (s.setPins x).pins = x := rfl
@[simp] theorem State.setPins_pending (x : Pins) : (s.setPins x).pending = s.pending := rfl

@[simp] theorem State.setPending_ports (x : List Instr) : (s.setPending x).ports = s.ports := rfl
@[simp] theorem State.setPending_streams (x : List Instr) : (s.setPending x).streams = s.streams := rfl
@[simp] theorem State.setPending_node (x : List Instr) : (s.setPending x).node = s.node := rfl
@[simp] theorem State.setPending_buses (x : List Instr) : (s.setPending x).buses = s.buses := rfl
@[simp] theorem State.setPending_zones (x : List Instr) : (s.setPending x).zones = s.zones := rfl
@[simp] theorem State.setPending_claims (x : List Instr) : (s.setPending x).claims = s.claims := rfl
@[simp] theorem State.setPending_tone (x : List Instr) : (s.setPending x).tone = s.tone := rfl
@[simp] theorem State.setPending_alarm (x : List Instr) : (s.setPending x).alarm = s.alarm := rfl
@[simp] theorem State.setPending_talk (x : List Instr) : (s.setPending x).talk = s.talk := rfl
@[simp] theorem State.setPending_showCtl (x : List Instr) : (s.setPending x).showCtl = s.showCtl := rfl
@[simp] theorem State.setPending_ambient (x : List Instr) : (s.setPending x).ambient = s.ambient := rfl
@[simp] theorem State.setPending_power (x : List Instr) : (s.setPending x).power = s.power := rfl
@[simp] theorem State.setPending_pins (x : List Instr) : (s.setPending x).pins = s.pins := rfl
@[simp] theorem State.setPending_pending (x : List Instr) : (s.setPending x).pending = x := rfl

end Sys2Proof.Machine
end

