-- ==== Sys2Proof/Laws/Commands.lean ====
section
/-! SUPPORT. The frame of every command: what its run may change. -/

namespace Sys2Proof.Machine

theorem whileRunning_only {l : List Part} {f : State → State} (h : ∀ s, Only l s (f s)) (s : State) :
    Only l s (whileRunning f s) := by
  unfold whileRunning
  split
  · exact Only.refl l s
  · exact h s

/-- A request changes what its body changes, and the queue its REPLY joins. -/
theorem takeRequest_only {l : List Part} {h : ReqHdr} {len : Nat} {cls : AuthClass} {body : State → Answer}
    (hq : Part.queues ∈ l) (hb : ∀ s, Only l s (body s).state) (s : State) : Only l s (takeRequest h len cls body s) := by
  have hr : ∀ code data t, Only l t (replyTo h code data t) := fun code data t =>
    (replyTo_only h code data t).mono (by simpa using hq)
  unfold takeRequest
  split
  · exact Only.refl l s
  · split
    · exact hr _ _ _
    · split
      · exact hr _ _ _
      · exact (hb s).trans (hr _ _ _)

theorem refuse_only (l : List Part) (code : ReplyCode) (s : State) : Only l s (refuse code s).state := Only.refl l s

theorem Only.ite {l : List Part} {s t u : State} {c : Prop} [Decidable c] (ht : Only l s t) (hu : Only l s u) :
    Only l s (if c then t else u) := by
  split
  · exact ht
  · exact hu

/-! Chapter 1 -/

/-- What a port event may change beside what an alarm event may. -/
def portParts : List Part := [.links, .streams, .islandHold, .fireSources] ++ alarming

theorem alarming_port : ∀ p ∈ alarming, p ∈ portParts := fun _ hp => List.mem_append_right _ hp

theorem modPort_only (p : Nat) (f : Port → Port) (s : State) : Only [.links, .queues] s (s.modPort p f) := by
  intro q hq
  cases q <;> simp_all [Part.same, State.modPort]

/-- A change of one port that keeps its queue and its counter of drops. -/
theorem modPort_links {f : Port → Port} (h : ∀ q, (f q).egress = q.egress ∧ (f q).drops = q.drops) (p : Nat) (s : State) :
    Only [.links] s (s.modPort p f) := by
  intro q hq
  cases q <;> simp_all [Part.same, State.modPort]
  exact map_modify_view _ _ (fun q => by rw [(h q).1, (h q).2]) _ _

theorem reselectStreams_only (p : Nat) (s : State) : Only [.streams] s (reselectStreams p s) := setStreams_only _ s
theorem writeSlots_only (p : Nat) (f : Nat → Sample) (s : State) : Only [.streams] s (writeSlots p f s) := setStreams_only _ s

theorem trunkLost_only (s : State) : Only [.islandHold, .fireSources] s (trunkLost s) := by
  unfold trunkLost
  split
  · exact (setIslandHold_only true s).mono (by decide)
  · exact (computeBeacon_only s).mono (by decide)

theorem portLost_only (p : Nat) (s : State) : Only portParts s (portLost p s) := by
  unfold portLost
  split
  · dsimp only
    have h1 : Only portParts s (s.modPort p (fun q => { q.goDown with rxAlarm := none })) :=
      (modPort_links (by intro q; exact ⟨rfl, rfl⟩) p s).mono (by decide)
    have h2 := fun u => (reselectStreams_only p u).mono (m := portParts) (by decide)
    have h3 := fun u => (portNotice_only p false u).mono (m := portParts) (by decide)
    have h4 := fun u => (trunkLost_only u).mono (m := portParts) (by decide)
    have h5 := fun u => (concludeAlarm_only s u).mono alarming_port
    refine ((h1.trans (h2 _)).trans (h3 _)).trans (Only.trans ?_ (h5 _))
    split
    · exact h4 _
    · exact Only.refl _ _
  · exact (modPort_links (by intro q; exact ⟨rfl, rfl⟩) p s).mono (by decide)

theorem runLossTimerExpiry_only (p : Nat) (s : State) : Only portParts s (runLossTimerExpiry p s) :=
  whileRunning_only (fun s => Only.ite (portLost_only p s) (Only.refl _ s)) s

theorem runPortDeparture_only (p : Nat) (s : State) : Only [.links, .queues] s (runPortDeparture p s) :=
  whileRunning_only (fun s => modPort_only _ _ s) s

theorem setLossTimeout_only (p lt : Nat) (s : State) : Only portParts s (setLossTimeout p lt s) := by
  unfold setLossTimeout
  dsimp only
  have h1 : Only portParts s (s.modPort p (fun q => { q with lt := min 15 lt })) :=
    (modPort_links (by intro q; exact ⟨rfl, rfl⟩) p s).mono (by decide)
  split
  · split
    · exact h1.trans (portLost_only _ _)
    · exact h1
  · exact h1

theorem runLoadPort_only (h : ReqHdr) (p lt : Nat) (s : State) : Only portParts s (runLoadPort h p lt s) :=
  takeRequest_only (by decide) (fun s => by
    split
    · exact refuse_only _ _ s
    · exact setLossTimeout_only p lt s) s

/-- What a request on the stream table may change. -/
def streamParts : List Part := [.streams, .queues]

theorem runLoadStreamMap_only (h : ReqHdr) (n : Nat) (a b : RawLoc) (s : State) :
    Only streamParts s (runLoadStreamMap h n a b s) :=
  takeRequest_only (by decide) (fun s => by
    repeat' split
    all_goals first | exact refuse_only _ _ s | exact (setStreams_only _ s).mono (by decide)) s

theorem runLoadStreamUnmap_only (h : ReqHdr) (n : Nat) (s : State) : Only streamParts s (runLoadStreamUnmap h n s) :=
  takeRequest_only (by decide) (fun s => by
    split
    · exact refuse_only _ _ s
    · exact (setStreams_only _ s).mono (by decide)) s

/-! Chapter 2 -/

/-- What a request on the cell handler's own tables may change. -/
def nodeParts : List Part := [.node, .queues]

theorem runLoadRoute_only (h : ReqHdr) (n : Nat) (q : Option Nat) (s : State) : Only nodeParts s (runLoadRoute h n q s) :=
  takeRequest_only (by decide) (fun s => by
    split
    · exact refuse_only _ _ s
    · exact (setNode_only _ s).mono (by decide)) s

theorem runLoadAuth_only (h : ReqHdr) (n m : Nat) (s : State) : Only nodeParts s (runLoadAuth h n m s) :=
  takeRequest_only (by decide) (fun s => by
    repeat' split
    all_goals first | exact refuse_only _ _ s | exact (setNode_only _ s).mono (by decide)) s

theorem runSetReport_only (h : ReqHdr) (n : Option Nat) (s : State) : Only nodeParts s (runSetReport h n s) :=
  takeRequest_only (by decide) (fun s => by
    split
    · exact refuse_only _ _ s
    · exact (setNode_only _ s).mono (by decide)) s

theorem runRead_only (h : ReqHdr) (t i n : Nat) (s : State) : Only [.queues] s (runRead h t i n s) :=
  takeRequest_only (by decide) (fun s => by
    split
    · exact Only.refl _ s
    · exact refuse_only _ _ s) s

/-- What a CLEAR-COUNTS may change. -/
def countParts : List Part := [.links, .queues, .busOutputs]

theorem modBus_only {f : Bus → Bus} (h : ∀ b, ((f b).role, (f b).zone, (f b).dests) = (b.role, b.zone, b.dests)) (b : Nat)
    (s : State) : Only [.busOutputs, .crosspoints] s (s.modBus b f) := by
  intro q hq
  cases q <;> simp_all [Part.same, State.modBus]
  exact map_modify_view _ _ (fun x => by rw [(h x).1, (h x).2.1, (h x).2.2]) _ _

theorem clearClips_only (b : Nat) (s : State) : Only [.busOutputs] s (s.modBus b Bus.clearClips) := by
  intro q hq
  cases q <;> simp_all [Part.same, State.modBus]
  · exact map_modify_view _ _ (by intro b; rfl) _ _
  · exact map_modify_view _ _ (by intro b; rfl) _ _

theorem runClearCountsPort_only (h : ReqHdr) (p : Nat) (s : State) : Only countParts s (runClearCountsPort h p s) :=
  takeRequest_only (by decide) (fun s => by
    split
    · exact refuse_only _ _ s
    · exact (modPort_only _ _ s).mono (by decide)) s

theorem runClearCountsBus_only (h : ReqHdr) (b : Nat) (s : State) : Only countParts s (runClearCountsBus h b s) :=
  takeRequest_only (by decide) (fun s => by
    split
    · exact refuse_only _ _ s
    · exact (clearClips_only _ s).mono (by decide)) s

theorem runClearCountsEvery_only (h : ReqHdr) (s : State) : Only countParts s (runClearCountsEvery h s) :=
  takeRequest_only (by decide) (fun s => by
    intro q hq
    cases q <;> simp_all [Part.same, done, countParts, Function.comp_def, Bus.clearClips]) s

/-! Chapter 3 -/

/-- What the application of scenes and the settling of the cue engine may change. -/
def showParts : List Part := [.crosspoints, .engine] ++ settling

theorem settling_show : ∀ p ∈ settling, p ∈ showParts := fun _ hp => List.mem_append_right _ hp

theorem cueSettle_only (s : State) : Only [.engine] s (cueSettle s) := by
  unfold cueSettle
  split
  · intro q hq
    cases q <;> simp_all [Part.same]
  · exact Only.refl _ s

/-- What a mix period may change. -/
def mixParts : List Part := [.busOutputs, .crosspoints, .layerCoefs, .engine] ++ settling

theorem settling_mix : ∀ p ∈ settling, p ∈ mixParts := fun _ hp => List.mem_append_right _ hp

theorem mixAll_only (s : State) : Only [.busOutputs, .crosspoints, .layerCoefs] s (mixAll s) := by
  intro q hq
  cases q <;> simp_all [Part.same, mixAll]
  all_goals first
    | (intro o _; cases o <;> rfl)
    | (apply List.ext_getElem <;> simp [mixBus, Bus.emit])

theorem runMixPeriod_only (s : State) : Only mixParts s (runMixPeriod s) :=
  whileRunning_only (fun s => by
    have h1 : Only mixParts s (mixAll s) := (mixAll_only s).mono (by decide)
    have h2 : Only mixParts (mixAll s) (cueSettle (mixAll s)) := (cueSettle_only _).mono (by decide)
    have h3 : Only mixParts (cueSettle (mixAll s)) (conclude s (cueSettle (mixAll s))) :=
      (conclude_only s _).mono settling_mix
    exact (h1.trans h2).trans h3) s

/-- What a LOAD-OUTPUT may change. -/
def outputParts : List Part := [.busRecords, .busOutputs, .crosspoints, .engine, .fallback] ++ settling

theorem settling_output : ∀ p ∈ settling, p ∈ outputParts := fun _ hp => List.mem_append_right _ hp

theorem endFallback_only (ds : List Dest) (s : State) : Only [.fallback] s (endFallback ds s) := by
  unfold endFallback
  split
  · intro q hq
    cases q <;> simp_all [Part.same]
  · exact Only.refl _ s

theorem modBus_all (b : Nat) (f : Bus → Bus) (s : State) : Only [.busRecords, .busOutputs, .crosspoints] s (s.modBus b f) := by
  intro q hq
  cases q <;> simp_all [Part.same, State.modBus]

theorem loadOutput_only (b r d : Nat) (ds : List RawLoc) (s : State) : Only outputParts s (loadOutput b r d ds s).state := by
  unfold loadOutput
  dsimp only
  repeat' split
  all_goals try with_reducible exact refuse_only _ _ s
  rename_i r ds _ _ _ _ _ _
  have h1 : Only outputParts s (s.modBus b (Bus.load r (min 4800 d) ds)) := (modBus_all _ _ s).mono (by decide)
  have h2 := fun u => (endFallback_only ds u).mono (m := outputParts) (by decide)
  have h3 := fun u => (cueSettle_only u).mono (m := outputParts) (by decide)
  have h4 := fun u => (conclude_only s u).mono settling_output
  have h5 := ((h1.trans (h2 _)).trans (h3 _)).trans (h4 _)
  exact h5

theorem runLoadOutput_only (h : ReqHdr) (b r d : Nat) (ds : List RawLoc) (s : State) :
    Only outputParts s (runLoadOutput h b r d ds s) := takeRequest_only (by decide) (loadOutput_only b r d ds) s

/-- What an exchange with the converters may change. -/
def exchangeParts : List Part := [.streams, .scan, .pins]

theorem takeWindowSample_only (ins : List Sample) (s : State) : Only [.scan] s (modWindow (takeWindowSample ins) s) := by
  intro q hq
  cases q <;> simp_all [Part.same, modWindow]
  cases s.ambient.scan.window <;> simp [takeWindowSample]
  split <;> rfl

theorem writeLocalInputs_only (ins : List Sample) (s : State) : Only [.streams] s (writeLocalInputs ins s) := setStreams_only _ s

theorem runLocalExchange_only (inputs : List (BitVec 24)) (s : State) : Only exchangeParts s (runLocalExchange inputs s) :=
  whileRunning_only (fun s => by
    dsimp only
    have h1 := fun ins => (writeLocalInputs_only ins s).mono (m := exchangeParts) (by decide)
    have h2 := fun ins u => (takeWindowSample_only ins u).mono (m := exchangeParts) (by decide)
    exact ((h1 _).trans (h2 _ _)).trans ((setPins_only _ _).mono (by decide))) s

end Sys2Proof.Machine
end

