-- ==== Sys2Proof/Laws/Blocks.lean ====
section
/-! SUPPORT. The frame of every command of chapters 4 to 11: what its run may change. -/

namespace Sys2Proof.Machine

/-- What settling may change is within any list of parts that ends in it. -/
theorem settling_append (l : List Part) : ∀ p ∈ settling, p ∈ l ++ settling := fun _ hp => List.mem_append_right _ hp

/-- What an application of the alarms may change is within any list of parts that ends in it. -/
theorem applying_append (l : List Part) : ∀ p ∈ applying, p ∈ l ++ applying := fun _ hp => List.mem_append_right _ hp

/-- What an alarm event may change is within any list of parts that ends in it. -/
theorem alarming_append (l : List Part) : ∀ p ∈ alarming, p ∈ l ++ alarming := fun _ hp => List.mem_append_right _ hp

/-! Chapter 4 -/

/-- What loading or unloading a zone may change. -/
def zoneParts : List Part :=
  [.busRecords, .zoneSettings, .cabinLevels, .layerCoefs, .comp] ++ applying

theorem applying_zone : ∀ p ∈ applying, p ∈ zoneParts := applying_append _

theorem setZones_only (x : List (Option Zone)) (s : State) :
    Only [.zoneSettings, .cabinLevels, .held, .layers, .layerCoefs, .applied, .comp] s (s.setZones x) := by
  intro q hq
  cases q <;> simp_all [Part.same]

theorem setZones_zone (x : List (Option Zone)) (s : State) : Only zoneParts s (s.setZones x) :=
  (setZones_only x s).mono (by decide)

theorem claimBuses_only (z : Nat) (bs : List Nat) (s : State) : Only [.busRecords] s (claimBuses z bs s) := by
  intro q hq
  cases q <;> simp_all [Part.same, claimBuses]
  all_goals
    refine map_mapIdx_view _ _ (fun b bus => ?_) _
    repeat' split
    all_goals rfl

theorem loadTrigger_only (z : Nat) (s : State) : Only latchParts s (loadTrigger z s) := by
  unfold loadTrigger
  split
  · exact setShowStop_only s
  · exact Only.refl _ s

theorem modZone_zone (z : Nat) (f : Zone → Zone) (s : State) : Only zoneParts s (s.modZone z f) := setZones_zone _ s

theorem closeSettle_zone (before : State) (s : State) :
    Only zoneParts s (close before (settle true { st := s, ended := [] })) :=
  (closeSettle_only true before { st := s, ended := [] }).mono (fun p hp => applying_zone p (settling_applying p hp))

theorem applyAll_zone (s : State) : Only zoneParts s (applyAll s) := (applyAll_only s).mono (by decide)

theorem installZone_only (z : Nat) (zn : Zone) (s : State) : Only zoneParts s (installZone z zn s) := by
  unfold installZone
  dsimp only
  generalize hs1 : claimBuses z zn.buses (s.setZones (s.zones.set z (some zn))) = s1
  have h1 : Only zoneParts s s1 :=
    hs1 ▸ (setZones_zone _ s).trans ((claimBuses_only _ _ _).mono (by decide))
  generalize hs2 : (if (s.zone z).any (fun o => o.sensor == zn.sensor) then s1 else dropFromWindow z s1) = s2
  have h2 : Only zoneParts s1 s2 := hs2 ▸ Only.ite (Only.refl _ s1) ((dropFromWindow_only z s1).mono (by decide))
  generalize hs3 : applyAll s2 = s3
  have h3 : Only zoneParts s2 s3 := hs3 ▸ applyAll_zone s2
  generalize hs4 : loadTrigger z s3 = s4
  have h4 : Only zoneParts s3 s4 := hs4 ▸ (loadTrigger_only z s3).mono (by decide)
  have h5 := (((h1.trans h2).trans h3).trans h4).trans (closeSettle_zone s s4)
  generalize close s (settle true { st := s4, ended := [] }) = s5 at h5 ⊢
  exact Only.ite (h5.trans (modZone_zone z _ s5)) h5

theorem loadZone_only (z k f : Nat) (bs : List Nat) (fs : ZoneFields) (s : State) :
    Only zoneParts s (loadZone z k f bs fs s).state := by
  unfold loadZone
  repeat' split
  all_goals try with_reducible exact refuse_only _ _ s
  exact installZone_only _ _ s

theorem runLoadZoneLoad_only (h : ReqHdr) (z k f : Nat) (bs : List Nat) (d t o l : Option Nat) (se am : Option Nat) (s : State) :
    Only zoneParts s (runLoadZoneLoad h z k f bs d t o l se am s) :=
  takeRequest_only (by decide) (loadZone_only z k f bs _) s

theorem removeZone_only (z : Nat) (s : State) : Only zoneParts s (removeZone z s) := by
  unfold removeZone
  split
  · exact Only.refl _ s
  · have h1 : Only zoneParts s (s.setZones (s.zones.set z none)) := setZones_zone _ s
    have h2 : ∀ u, Only zoneParts u (claimBuses z [] u) := fun u => (claimBuses_only _ _ u).mono (by decide)
    have h3 : ∀ u, Only zoneParts u (dropFromWindow z u) := fun u => (dropFromWindow_only z u).mono (by decide)
    exact ((h1.trans (h2 _)).trans (h3 _)).trans ((concludeApplied_only s _).mono applying_zone)

theorem runLoadZoneUnload_only (h : ReqHdr) (z : Nat) (s : State) : Only zoneParts s (runLoadZoneUnload h z s) :=
  takeRequest_only (by decide) (fun s => by
    repeat' split
    all_goals try with_reducible exact refuse_only _ _ s
    exact removeZone_only z s) s

/-- What a CABIN-LEVEL may change. -/
def cabinParts : List Part := [.cabinLevels, .layers, .queues]

theorem modZone_cabin (z l : Nat) (s : State) :
    Only [.cabinLevels] s (s.modZone z (fun zn => { zn with cabinLevel := l })) := by
  intro q hq
  cases q <;> simp_all [Part.same, State.modZone]
  all_goals
    refine map_modify_view _ _ (fun o => ?_) _ _
    cases o <;> rfl

theorem runCabinLevel_only (h : ReqHdr) (z l : Nat) (s : State) : Only cabinParts s (runCabinLevel h z l s) :=
  takeRequest_only (by decide) (fun s => by
    repeat' split
    all_goals try with_reducible exact refuse_only _ _ s
    have h1 : Only cabinParts s (s.modZone z (fun zn => { zn with cabinLevel := min 15 l })) :=
      (modZone_cabin z _ s).mono (by decide)
    exact h1.trans ((refreshZones_only _).mono (by decide))) s

/-! Chapter 5 -/

theorem arbiter_settling : ∀ p ∈ arbiterParts, p ∈ settling := by decide

theorem endBumped_only (b : List Nat) (c : Nat) (e : Ev) : Only arbiterParts e.st (endBumped b c e).st := by
  unfold endBumped
  split
  · exact endClaim_only _ _ _
  · exact Only.refl _ _

theorem acceptClaim_only (c : Nat) (cl : Claim) (js : List Nat) (s : State) : Only settling s (acceptClaim c cl js s) := by
  unfold acceptClaim
  dsimp only
  generalize hs1 : s.setClaims { s.claims with table := s.claims.table.set c (some cl) } = s1
  have h1 : Only settling s s1 := hs1 ▸ (setClaims_only _ s).mono (by decide)
  generalize hs2 : forEach js (joinList cl.priority c) s1 = s2
  have h2 : Only settling s1 s2 :=
    hs2 ▸ (forEach_only (fun z u => setList_only z _ u) js s1).mono (by decide)
  generalize he : forUpTo Config.claims (endBumped (js.filterMap (bumpedFrom s))) { st := s2, ended := [] } = e
  have h3 : Only settling s2 e.st :=
    he ▸ (forUpTo_ev_only (endBumped_only _) _ { st := s2, ended := [] }).mono arbiter_settling
  exact ((h1.trans h2).trans h3).trans (closeSettle_only false s e)

theorem pageOpen_only (h : ReqHdr) (p src : Nat) (t : PageTarget) (g o : Nat) (op : PageOptions) (s : State) :
    Only settling s (pageOpen h p src t g o op s).state := by
  unfold pageOpen
  dsimp only
  repeat' split
  all_goals try with_reducible exact refuse_only _ _ s
  exact acceptClaim_only _ _ _ s

theorem runPageOpen_only (h : ReqHdr) (p src : Nat) (t : PageTarget) (g : Nat) (w : Bool) (o : Nat) (c : Option Nat) (l : Nat)
    (s : State) : Only settling s (runPageOpen h p src t g w o c l s) :=
  takeRequest_only (by decide) (pageOpen_only h p src t g o _) s

theorem finishClaim_only (r : EndReason) (c : Nat) (s : State) : Only settling s (finishClaim r c s) := by
  unfold finishClaim
  have h1 := (endClaim_only r c { st := s, ended := [] }).mono arbiter_settling
  exact h1.trans (closeSettle_only false s _)

theorem runPageClose_only (h : ReqHdr) (c : Nat) (s : State) : Only settling s (runPageClose h c s) :=
  takeRequest_only (by decide) (fun s => by
    repeat' split
    all_goals try with_reducible exact refuse_only _ _ s
    exact finishClaim_only _ _ s) s

theorem runTimeLimitExpiry_only (c : Nat) (s : State) : Only settling s (runTimeLimitExpiry c s) :=
  whileRunning_only (fun s => Only.ite (finishClaim_only _ _ s) (Only.refl _ s)) s

theorem runSourceWatchExpiry_only (c : Nat) (s : State) : Only settling s (runSourceWatchExpiry c s) :=
  whileRunning_only (fun s => Only.ite (finishClaim_only _ _ s) (Only.refl _ s)) s

/-! Chapter 6 -/

theorem setTone_voices (f : List Voice) (s : State) : Only [.voices] s (s.setTone { s.tone with voices := f }) := by
  intro q hq
  cases q <;> simp_all [Part.same]

theorem endPhase_only (v : Nat) (s : State) : Only settling s (endPhase v s) := by
  unfold endPhase
  dsimp only
  have h1 : ∀ f, Only settling s (s.modVoice v f) := fun f => (modVoice_only v f s).mono (by decide)
  split
  · exact h1 _
  · split
    · have h2 : ∀ c u, Only settling u (u.modClaim c goLive) := fun c u => (modClaim_only c _ u).mono (by decide)
      have h3 : Only settling s (freeVoice v s) := h1 _
      exact (h3.trans (h2 _ _)).trans (conclude_only s _)
    · exact h1 _

theorem runStepTimerExpiry_only (v : Nat) (s : State) : Only settling s (runStepTimerExpiry v s) :=
  whileRunning_only (fun s => Only.ite (endPhase_only v s) (Only.refl _ s)) s

theorem endPhases_only (s : State) : Only settling s (endPhases s) := forUpTo_only runStepTimerExpiry_only _ s

theorem sampleVoices_only (s : State) : Only [.voices] s (sampleVoices s) := setTone_voices _ s

theorem runToneVoiceSample_only (s : State) : Only settling s (runToneVoiceSample s) :=
  whileRunning_only (fun s => (endPhases_only s).trans ((sampleVoices_only _).mono (by decide))) s

/-- What a LOAD-CADENCE may change. -/
def cadenceParts : List Part := [.cadences, .queues]

theorem runLoadCadence_only (h : ReqHdr) (n : Nat) (f : Bool) (r : Nat) (l : List RawStep) (s : State) :
    Only cadenceParts s (runLoadCadence h n f r l s) :=
  takeRequest_only (by decide) (fun s => by
    unfold loadCadence
    dsimp only
    repeat' split
    all_goals try with_reducible exact refuse_only _ _ s
    all_goals
      intro q hq
      cases q <;> simp_all [Part.same, done, cadenceParts]) s

/-! Chapter 7 -/

/-- What a change of an alarm source may change. -/
def sourceParts : List Part := [.fireSources, .contact, .pins] ++ alarming

/-- What a change of a signal record may change. -/
def signalParts : List Part := [.signals] ++ applying

theorem alarming_source : ∀ p ∈ alarming, p ∈ sourceParts := alarming_append _

theorem concludeAlarm_source (before s : State) : Only sourceParts s (concludeAlarm before s) :=
  (concludeAlarm_only before s).mono alarming_source

theorem setSignals_only (x : List Signal) (s : State) : Only [.signals] s (s.setAlarm { s.alarm with signals := x }) := by
  intro q hq
  cases q <;> simp_all [Part.same]

theorem restartSignal_only (k : AlarmKind) (a b : Nat) (s : State) : Only [.voices] s (restartSignal k a b s) := by
  unfold restartSignal
  repeat' split
  all_goals first | exact Only.refl _ s | exact startVoice_only _ _ _ s

theorem writeSignal_only (k : AlarmKind) (r : Signal) (s : State) : Only signalParts s (writeSignal k r s) := by
  unfold writeSignal
  dsimp only
  have h1 : Only signalParts s (s.setAlarm { s.alarm with signals := s.alarm.signals.set (signalIndex k) r }) :=
    (setSignals_only _ s).mono (by decide)
  have h2 : ∀ a b u, Only signalParts u (restartSignal k a b u) := fun a b u => (restartSignal_only k a b u).mono (by decide)
  exact (h1.trans (h2 _ _ _)).trans ((concludeApplied_only s _).mono (applying_append _))

theorem runLoadSignal_only (h : ReqHdr) (n c l d k : Nat) (s : State) : Only signalParts s (runLoadSignal h n c l d k s) :=
  takeRequest_only (by decide) (fun s => by
    unfold loadSignal
    repeat' split
    all_goals try with_reducible exact refuse_only _ _ s
    exact writeSignal_only _ _ s) s

theorem writeCellKinds_only (z : BitVec 16) (k : Option AlarmKind) (s : State) :
    Only [.fireSources] s (writeCellKinds z k s) := by
  intro q hq
  cases q <;> simp_all [Part.same, writeCellKinds]
  refine map_mapIdx_view _ _ (fun i f => ?_) _
  split <;> rfl

theorem writeCell_source (z : BitVec 16) (k : Option AlarmKind) (s : State) :
    Only sourceParts s (concludeAlarm s (writeCellKinds z k s)) :=
  ((writeCellKinds_only z k s).mono (by decide)).trans (concludeAlarm_source s _)

theorem runAlarmSet_only (h : ReqHdr) (z : BitVec 16) (k : Nat) (s : State) : Only sourceParts s (runAlarmSet h z k s) :=
  takeRequest_only (by decide) (fun s => by
    repeat' split
    all_goals try with_reducible exact refuse_only _ _ s
    exact writeCell_source _ _ s) s

theorem runAlarmClearCell_only (h : ReqHdr) (z : BitVec 16) (s : State) : Only sourceParts s (runAlarmClearCell h z s) :=
  takeRequest_only (by decide) (fun s => by
    repeat' split
    all_goals try with_reducible exact refuse_only _ _ s
    exact writeCell_source _ _ s) s

theorem setContactLatch_only (b : Bool) (s : State) : Only [.contact] s (setContactLatch b s) := by
  intro q hq
  cases q <;> simp_all [Part.same, setContactLatch]

theorem latch_source (b : Bool) (s : State) : Only sourceParts s (setContactLatch b s) :=
  (setContactLatch_only b s).mono (by decide)

theorem runAlarmClearContact_only (h : ReqHdr) (s : State) : Only sourceParts s (runAlarmClearContact h s) :=
  takeRequest_only (by decide) (fun s => by
    repeat' split
    all_goals try with_reducible exact refuse_only _ _ s
    exact (latch_source _ s).trans (concludeAlarm_source s _)) s

theorem takeContact_only (c : Bool) (s : State) : Only sourceParts s (takeContact c s) := by
  unfold takeContact
  dsimp only
  generalize hs1 : s.setPins { s.pins with contactIn := c } = s1
  have h1 : Only sourceParts s s1 := hs1 ▸ (setPins_only _ s).mono (by decide)
  generalize hs2 : s1.setAlarm { s1.alarm with contactClosed := c, contactCount := 0 } = s2
  have h2 : Only sourceParts s1 s2 := by
    subst hs2
    intro q hq
    cases q <;> simp_all [Part.same, sourceParts]
  split
  · exact ((h1.trans h2).trans (latch_source _ _)).trans (concludeAlarm_source s _)
  · exact h1.trans h2

theorem runContactDebounceComplete_only (c : Bool) (s : State) : Only sourceParts s (runContactDebounceComplete c s) :=
  whileRunning_only (fun s => Only.ite (takeContact_only c s) ((setPins_only _ s).mono (by decide))) s

/-! Chapter 8 -/

/-- What a key, a talk timer or a load of a group may change. -/
def talkParts : List Part := [.groupRecords, .talkers, .queues]

theorem sendNotes_talk (l : List Note) (s : State) : Only talkParts s (sendNotes l s) := (sendNotes_only l s).mono (by decide)

/-- What a key or a talk timer may change. -/
def keyParts : List Part := [.talkers, .queues]

theorem sendNotes_key (l : List Note) (s : State) : Only keyParts s (sendNotes l s) := (sendNotes_only l s).mono (by decide)

theorem modGroup_key {f : Group → Group} (hf : KeepsGroup f) (g : Nat) (s : State) : Only keyParts s (s.modGroup g f) :=
  (modGroup_only hf g s).mono (by decide)

theorem modGroup_talk (n : Nat) (g : Group → Group) (s : State) : Only talkParts s (s.modGroup n g) := by
  intro q hq
  cases q <;> simp_all [Part.same, State.modGroup, talkParts]

theorem runLoadGroup_only (h : ReqHdr) (n : Nat) (f : Bool) (lim : Nat) (l : List RawMember) (s : State) :
    Only talkParts s (runLoadGroup h n f lim l s) :=
  takeRequest_only (by decide) (fun s => by
    unfold loadGroup
    dsimp only
    repeat' split
    all_goals try with_reducible exact refuse_only _ _ s
    all_goals exact (modGroup_talk n _ s).trans (sendNotes_talk _ _)) s

theorem keyIdle_only (n i : Nat) (m : Member) (s : State) : Only keyParts s (keyIdle n i m s).state := by
  unfold keyIdle
  dsimp only
  repeat' split
  all_goals try with_reducible exact refuse_only _ _ s
  · exact (modGroup_key (letTalk_keeps i) n s).trans (sendNotes_key _ _)
  · refine (modGroup_key (f := fun g => Group.letTalk i (Group.release _ g)) (fun g => ?_) n s).trans (sendNotes_key _ _)
    exact ⟨(letTalk_keeps i _).1.trans (release_keeps _ g).1, (letTalk_keeps i _).2.trans (release_keeps _ g).2⟩
  · exact sendNotes_key _ s

theorem runTalkKeyOn_only (h : ReqHdr) (n : Nat) (s : State) : Only keyParts s (runTalkKeyOn h n s) :=
  takeRequest_only (by decide) (fun s => by
    unfold talkKeyOn
    repeat' split
    all_goals try with_reducible exact refuse_only _ _ s
    · exact keyIdle_only _ _ _ s
    · exact modGroup_key (rekey_keeps _) n s) s

theorem runTalkKeyOff_only (h : ReqHdr) (n : Nat) (s : State) : Only keyParts s (runTalkKeyOff h n s) :=
  takeRequest_only (by decide) (fun s => by
    unfold talkKeyOff
    repeat' split
    all_goals try with_reducible exact refuse_only _ _ s
    · exact Only.refl _ s
    · exact (modGroup_key (release_keeps _) n s).trans (sendNotes_key _ _)) s

theorem runTalkTimerExpiry_only (n i : Nat) (s : State) : Only keyParts s (runTalkTimerExpiry n i s) :=
  whileRunning_only (fun s => by
    repeat' split
    all_goals try with_reducible exact Only.refl _ s
    exact (modGroup_key (release_keeps i) n s).trans (sendNotes_key _ _)) s

/-! Chapter 9 -/

/-- What a load of the show controller's tables may change. -/
def showLoadParts : List Part := [.scenes, .cues, .cueMark, .gates, .hold, .lines, .queues]

/-- The show controller without the tables, gate lines and status lines that requests load. -/
def ShowCtl.running (c : ShowCtl) : ShowCtl :=
  { c with scenes := [], cues := [], cueMark := none, gates := [], stopRose := false, hold := false, lines := [] }

theorem setShow_load (x : ShowCtl) (s : State) (h : x.running = s.showCtl.running) :
    Only showLoadParts s (s.setShow x) := by
  intro q hq
  simp only [ShowCtl.running, ShowCtl.mk.injEq, true_and, and_true] at h
  cases q <;> simp_all [Part.same, showLoadParts]

theorem runLoadSceneScope_only (h : ReqHdr) (n : Nat) (m : BitVec 64) (s : State) :
    Only showLoadParts s (runLoadSceneScope h n m s) :=
  takeRequest_only (by decide) (fun s => by
    repeat' split
    all_goals try with_reducible exact refuse_only _ _ s
    exact setShow_load _ s rfl) s

theorem runLoadSceneEntries_only (h : ReqHdr) (n : Nat) (f : Bool) (l : List RawEntry) (s : State) :
    Only showLoadParts s (runLoadSceneEntries h n f l s) :=
  takeRequest_only (by decide) (fun s => by
    unfold loadEntries
    dsimp only
    repeat' split
    all_goals try with_reducible exact refuse_only _ _ s
    all_goals exact setShow_load _ s rfl) s

theorem runLoadCueLoad_only (h : ReqHdr) (n sc x : Nat) (a nx : Option Nat) (s : State) :
    Only showLoadParts s (runLoadCueLoad h n sc x a nx s) :=
  takeRequest_only (by decide) (fun s => by
    repeat' split
    all_goals try with_reducible exact refuse_only _ _ s
    exact setShow_load _ s rfl) s

theorem runLoadCueUnload_only (h : ReqHdr) (n : Nat) (s : State) : Only showLoadParts s (runLoadCueUnload h n s) :=
  takeRequest_only (by decide) (fun s => by
    repeat' split
    all_goals try with_reducible exact refuse_only _ _ s
    exact setShow_load _ s rfl) s

theorem runLoadCueMark_only (h : ReqHdr) (n : Option Nat) (s : State) : Only showLoadParts s (runLoadCueMark h n s) :=
  takeRequest_only (by decide) (fun s => by
    repeat' split
    all_goals try with_reducible exact refuse_only _ _ s
    exact setShow_load _ s rfl) s

theorem runLoadLineGate_only (h : ReqHdr) (l d m : Nat) (s : State) : Only showLoadParts s (runLoadLineGate h l d m s) :=
  takeRequest_only (by decide) (fun s => by
    repeat' split
    all_goals try with_reducible exact refuse_only _ _ s
    have h1 : ∀ f, Only showLoadParts s (s.modGate l f) := fun f => setShow_load _ s rfl
    exact (h1 _).trans ((judgeHold_only _).mono (by decide))) s

theorem modLine_only (n : Nat) (f : Line → Line) (s : State) : Only [.lines] s (s.modLine n f) := by
  intro q hq
  cases q <;> simp_all [Part.same, State.modLine]

theorem runLoadLineStatus_only (h : ReqHdr) (l src w t : Nat) (s : State) :
    Only showLoadParts s (runLoadLineStatus h l src w t s) :=
  takeRequest_only (by decide) (fun s => by
    repeat' split
    all_goals try with_reducible exact refuse_only _ _ s
    exact (modLine_only _ _ s).mono (by decide)) s

/-- What a GO, a GOTO, the application of a scene or a gate line may change. -/
def cueParts : List Part :=
  [.crosspoints, .engine, .autoFollow, .cueLatch, .showStop, .held, .gates, .hold] ++ settling

theorem settling_cue : ∀ p ∈ settling, p ∈ cueParts := settling_append _

theorem conclude_cue (before s : State) : Only cueParts s (conclude before s) := (conclude_only before s).mono settling_cue

theorem applyScene_only (n t : Nat) (s : State) : Only [.crosspoints] s (applyScene n t s) := by
  intro q hq
  cases q <;> simp_all [Part.same, applyScene]
  all_goals
    refine map_mapIdx_view _ _ (fun b bus => ?_) _
    unfold applyToBus
    split <;> rfl

theorem takeCue_only (n : Nat) (c : Cue) (s : State) : Only [.crosspoints, .engine, .autoFollow, .cueLatch] s (takeCue n c s) := by
  unfold takeCue
  dsimp only
  have h1 : Only [.crosspoints, .engine, .autoFollow, .cueLatch] s (applyScene c.scene c.crossfade s) :=
    (applyScene_only _ _ s).mono (by decide)
  refine (h1.trans ?_).trans ((cueSettle_only _).mono (by decide))
  generalize applyScene c.scene c.crossfade s = u
  intro q hq
  cases q <;> simp_all [Part.same]

theorem performGo_only (s t : State) (h : performGo s = some t) : Only [.crosspoints, .engine, .autoFollow, .cueLatch] s t := by
  unfold performGo at h
  split at h
  · exact absurd h (by simp)
  · obtain ⟨c, -, rfl⟩ := Option.map_eq_some_iff.mp h
    exact takeCue_only _ _ s

theorem silentGo_only (s : State) : Only [.crosspoints, .engine, .autoFollow, .cueLatch] s (silentGo s) := by
  unfold silentGo
  cases h : performGo s with
  | none => exact Only.refl _ s
  | some t => exact performGo_only s t h

theorem runGo_only (h : ReqHdr) (s : State) : Only cueParts s (runGo h s) :=
  takeRequest_only (by decide) (fun s => by
    split
    · exact refuse_only _ _ s
    · rename_i t ht
      exact ((performGo_only s t ht).mono (by decide)).trans (conclude_cue s t)) s

theorem runGoto_only (h : ReqHdr) (n : Nat) (s : State) : Only cueParts s (runGoto h n s) :=
  takeRequest_only (by decide) (fun s => by
    repeat' split
    all_goals try with_reducible exact refuse_only _ _ s
    exact ((takeCue_only _ _ s).mono (by decide)).trans (conclude_cue s _)) s

theorem runApplyScene_only (h : ReqHdr) (n t : Nat) (s : State) : Only cueParts s (runApplyScene h n t s) :=
  takeRequest_only (by decide) (fun s => by
    repeat' split
    all_goals try with_reducible exact refuse_only _ _ s
    have h1 : Only cueParts s (applyScene n (min 60000 t) s) := (applyScene_only _ _ s).mono (by decide)
    have h2 := fun u => (cueSettle_only u).mono (m := cueParts) (by decide)
    have h3 := (h1.trans (h2 _)).trans (conclude_cue s _)
    exact h3) s

theorem runAutoFollowExpiry_only (s : State) : Only cueParts s (runAutoFollowExpiry s) :=
  whileRunning_only (fun s => by
    split
    · have h1 : Only cueParts s (s.setShow { s.showCtl with autoFollow := none, autoCounted := true }) := by
        intro q hq
        cases q <;> simp_all [Part.same, cueParts]
      have h2 := fun u => (silentGo_only u).mono (m := cueParts) (by decide)
      have h3 := (h1.trans (h2 _)).trans (conclude_cue s _)
      exact h3
    · exact Only.refl _ s) s

theorem runShowClearShowStop_only (h : ReqHdr) (s : State) : Only cueParts s (runShowClearShowStop h s) :=
  takeRequest_only (by decide) (fun s => by
    split
    · exact refuse_only _ _ s
    · exact ((clearShowStop_only s).mono (by decide)).trans (conclude_cue s _)) s

/-- What clearing the cue-mark latch or the status lines may change. -/
def latchClearParts : List Part := [.cueLatch, .lines, .queues]

theorem runShowClearCueMark_only (h : ReqHdr) (s : State) : Only latchClearParts s (runShowClearCueMark h s) :=
  takeRequest_only (by decide) (fun s => by
    have h1 : Only latchClearParts s (clearCueLatch s) := by
      intro q hq
      cases q <;> simp_all [Part.same, clearCueLatch, latchClearParts]
    exact h1.trans ((updateLines_only s _).mono (by decide))) s

theorem runShowClearLines_only (h : ReqHdr) (s : State) : Only latchClearParts s (runShowClearLines h s) :=
  takeRequest_only (by decide) (fun s => by
    intro q hq
    cases q <;> simp_all [Part.same, done, latchClearParts]) s

theorem stopEdge_only (s : State) : Only cueParts s (stopEdge s) := by
  refine ((setShowStop_only s).mono (by decide) : Only cueParts s (setShowStop s)).trans ?_
  unfold stopEdge
  generalize setShowStop s = u
  intro q hq
  cases q <;> simp_all [Part.same, cueParts]

theorem gateEdge_only (m : GateMode) (s : State) : Only cueParts s (gateEdge m s) := by
  unfold gateEdge
  split
  · exact (silentGo_only s).mono (by decide)
  · exact stopEdge_only s
  · exact Only.refl _ s

theorem modGate_only (n : Nat) (f : Gate → Gate) (s : State) : Only [.gates] s (s.modGate n f) := by
  intro q hq
  cases q <;> simp_all [Part.same, State.modGate]

theorem takeGate_only (n : Nat) (b : Bool) (s : State) : Only cueParts s (takeGate n b s) := by
  unfold takeGate
  dsimp only
  generalize hs : judgeHold (s.modGate n (fun g => { g with input := b, level := b, count := 0 })) = u
  have h1 : Only cueParts s u := by
    subst hs
    exact ((modGate_only n _ s).mono (by decide)).trans ((judgeHold_only _).mono (by decide))
  split
  · exact (h1.trans (gateEdge_only _ _)).trans (conclude_cue s _)
  · exact h1.trans (conclude_cue s _)

theorem runGateDebounceComplete_only (n : Nat) (b : Bool) (s : State) : Only cueParts s (runGateDebounceComplete n b s) :=
  whileRunning_only (fun s => Only.ite (takeGate_only n b s) ((modGate_only n _ s).mono (by decide))) s

theorem runStretchTimerExpiry_only (n : Nat) (s : State) : Only [.lines] s (runStretchTimerExpiry n s) :=
  whileRunning_only (fun s => Only.ite (modLine_only _ _ s) (Only.refl _ s)) s

/-! Chapter 10 -/

/-- What the ambient meter's commands may change. -/
def meterParts : List Part := [.sensors, .curves, .scan, .windowMarks, .comp, .layers, .queues]

theorem setAmbient_only (x : Ambient) (s : State) : Only [.sensors, .curves, .scan, .windowMarks] s (s.setAmbient x) := by
  intro q hq
  cases q <;> simp_all [Part.same]

theorem setAmbient_meter (x : Ambient) (s : State) : Only meterParts s (s.setAmbient x) := (setAmbient_only x s).mono (by decide)

theorem restartWindow_only (n : Nat) (s : State) : Only meterParts s (restartWindow n s) := by
  unfold restartWindow
  split
  · exact setAmbient_meter _ s
  · exact Only.refl _ s

theorem runLoadSensorLoad_only (h : ReqHdr) (n i : Nat) (o : Int) (l u c : Nat) (st : Option Nat) (s : State) :
    Only meterParts s (runLoadSensorLoad h n i o l u c st s) :=
  takeRequest_only (by decide) (fun s => by
    repeat' split
    all_goals try with_reducible exact refuse_only _ _ s
    exact Only.trans (setAmbient_meter _ s) (restartWindow_only n _)) s

theorem runLoadSensorUnload_only (h : ReqHdr) (n : Nat) (s : State) : Only meterParts s (runLoadSensorUnload h n s) :=
  takeRequest_only (by decide) (fun s => by
    repeat' split
    all_goals try with_reducible exact refuse_only _ _ s
    exact Only.trans (setAmbient_meter _ s) (restartWindow_only n _)) s

theorem runLoadCurve_only (h : ReqHdr) (n : Nat) (f : Bool) (l : List (Nat × Nat)) (s : State) :
    Only meterParts s (runLoadCurve h n f l s) :=
  takeRequest_only (by decide) (fun s => by
    unfold loadCurve
    dsimp only
    repeat' split
    all_goals try with_reducible exact refuse_only _ _ s
    all_goals exact setAmbient_meter _ s) s

theorem runScanStart_only (h : ReqHdr) (f l m : Nat) (s : State) : Only meterParts s (runScanStart h f l m s) :=
  takeRequest_only (by decide) (fun s => by
    repeat' split
    all_goals try with_reducible exact refuse_only _ _ s
    exact Only.trans (setAmbient_meter _ s) (setAmbient_meter _ _)) s

theorem runScanStop_only (h : ReqHdr) (s : State) : Only meterParts s (runScanStop h s) :=
  takeRequest_only (by decide) (fun s => setAmbient_meter _ s) s

theorem compensateZones_only (marks : List (Nat × Bool)) (t st : Nat) (s : State) :
    Only [.comp] s (compensateZones marks t st s) := by
  refine forEach_only (fun m u => ?_) marks s
  split
  · exact Only.refl _ u
  · intro q hq
    cases q <;> simp_all [Part.same, State.modZone]
    all_goals
      refine map_modify_view _ _ (fun o => ?_) _ _
      cases o <;> rfl

theorem takeResult_only (n l : Nat) (w : Window) (x : Sensor) (s : State) : Only meterParts s (takeResult n l w x s) := by
  unfold takeResult
  dsimp only
  have h1 : ∀ x u, Only meterParts u (setSensor n x u) := fun x u => setAmbient_meter _ u
  have h2 : ∀ b u, Only meterParts u (sensorNotice n b u) := fun b u => (sensorNotice_only n b u).mono (by decide)
  have h3 : ∀ m t st u, Only meterParts u (compensateZones m t st u) := fun m t st u =>
    (compensateZones_only m t st u).mono (by decide)
  have h4 : ∀ u, Only meterParts u (refreshZones u) := fun u => (refreshZones_only u).mono (by decide)
  split
  · split
    · exact h1 _ s
    · exact (h1 _ s).trans (h2 _ _)
  · split
    · exact (((h1 _ s).trans (h2 _ _)).trans (h3 _ _ _ _)).trans (h4 _)
    · exact ((h1 _ s).trans (h3 _ _ _ _)).trans (h4 _)

theorem moveScan_only (s : State) : Only meterParts s (moveScan s) := by
  unfold moveScan
  dsimp only
  repeat' split
  all_goals exact setAmbient_meter _ s

theorem completeWindow_only (w : Window) (s : State) : Only meterParts s (completeWindow w s) := by
  unfold completeWindow
  dsimp only
  split
  · exact moveScan_only s
  · exact (takeResult_only _ _ _ _ s).trans (moveScan_only _)

theorem runScanWindowComplete_only (s : State) : Only meterParts s (runScanWindowComplete s) :=
  whileRunning_only (fun s => by
    split
    · exact Only.refl _ s
    · exact Only.ite (completeWindow_only _ s) (Only.refl _ s)) s

/-! Chapter 11 -/

/-- What the amplifier manager's commands may change. -/
def ampParts : List Part := [.ampInputs, .ampSettings, .policy] ++ settling

theorem settling_amp : ∀ p ∈ settling, p ∈ ampParts := settling_append _

theorem conclude_amp (before s : State) : Only ampParts s (conclude before s) := (conclude_only before s).mono settling_amp

theorem setPower_only (x : Power) (s : State) : Only [.ampInputs, .ampSettings, .ampStates, .policy] s (s.setPower x) := by
  intro q hq
  cases q <;> simp_all [Part.same]

theorem modAmp_all (g : Nat) (f : Amp → Amp) (s : State) : Only ampParts s (s.modAmp g f) :=
  (setPower_only _ s).mono (by decide)

theorem fault_amp : ∀ p ∈ faultParts, p ∈ ampParts := by decide

/-- A change of an input level alone. -/
theorem modAmp_input {f : Amp → Amp}
    (h : ∀ a, Part.same.ampSettings (f a) = Part.same.ampSettings a ∧ Part.same.ampState (f a) = Part.same.ampState a)
    (g : Nat) (s : State) : Only [.ampInputs] s (s.modAmp g f) := by
  intro q hq
  cases q <;> simp_all [Part.same, State.modAmp]
  · exact map_modify_view _ _ (fun a => (h a).1) _ _
  · exact map_modify_view _ _ (fun a => (h a).2) _ _

theorem takeReady_only (g : Nat) (b : Bool) (s : State) : Only ampParts s (takeReady g b s) := by
  unfold takeReady
  exact (modAmp_all g _ s).trans (conclude_amp s _)

theorem runAmpReadyChange_only (g : Nat) (b : Bool) (s : State) : Only ampParts s (runAmpReadyChange g b s) := by
  unfold runAmpReadyChange
  split
  · exact Only.refl _ s
  · split
    · exact modAmp_all g _ s
    · exact takeReady_only g b s

theorem takeFault_only (g : Nat) (b : Bool) (s : State) : Only ampParts s (takeFault g b s) := by
  unfold takeFault
  dsimp only
  have h1 : Only ampParts s (s.modAmp g (fun a => { a with faultIn := b })) := modAmp_all g _ s
  refine (h1.trans ?_).trans (conclude_amp s _)
  split
  · exact (enterFault_only _ _ _).mono fault_amp
  · exact (autoLeave_only _ _).mono fault_amp

theorem runAmpFaultInputChange_only (g : Nat) (b : Bool) (s : State) : Only ampParts s (runAmpFaultInputChange g b s) := by
  unfold runAmpFaultInputChange
  split
  · exact Only.refl _ s
  · split
    · exact modAmp_all g _ s
    · exact takeFault_only g b s

theorem runWakeTimerExpiry_only (g : Nat) (s : State) : Only ampParts s (runWakeTimerExpiry g s) :=
  whileRunning_only (fun s => by
    split
    · exact ((enterFault_only g .noReady s).mono fault_amp).trans (conclude_amp s _)
    · exact Only.refl _ s) s

theorem fullWindow_keeps (p : Nat) : KeepsAmp (fullWindow p) := by
  intro a
  unfold fullWindow
  have h1 := judgeIdle_keeps p (judgeDemoted { a with early := a.early - 1, earlyFlag := false, windowTimer := some 0, windowCounted := true })
  have h2 := judgeDemoted_keeps { a with early := a.early - 1, earlyFlag := false, windowTimer := some 0, windowCounted := true }
  exact ⟨h1.1.trans h2.1, h1.2.1.trans h2.2.1, h1.2.2.trans h2.2.2⟩

theorem runFullWindow_only (g : Nat) (s : State) : Only [.ampStates] s (runFullWindow g s) :=
  whileRunning_only (fun s => Only.ite (modAmp_only (fullWindow_keeps _) g s) (Only.refl _ s)) s

theorem reachThreshold_keeps (p : Nat) : KeepsAmp (reachThreshold p) := by
  intro a
  unfold reachThreshold
  repeat' split
  · exact ⟨rfl, rfl, rfl⟩
  · exact judgeIdle_keeps p _
  · exact ⟨rfl, rfl, rfl⟩

theorem runIdleResidencyThreshold_only (g : Nat) (s : State) : Only [.ampStates] s (runIdleResidencyThreshold g s) :=
  whileRunning_only (fun s => modAmp_only (reachThreshold_keeps _) g s) s

theorem loadAmp_only (g : Nat) (f : AmpFields) (s : State) : Only ampParts s (loadAmp g f s) := by
  unfold loadAmp
  have h1 := fun f => modAmp_all g f s
  exact ((h1 _).trans ((autoLeave_only g _).mono fault_amp)).trans (conclude_amp s _)

theorem runLoadAmp_only (h : ReqHdr) (g m q sb o a b t w : Nat) (s : State) :
    Only ampParts s (runLoadAmp h g m q sb o a b t w s) :=
  takeRequest_only (by decide) (fun s => by
    repeat' split
    all_goals try with_reducible exact refuse_only _ _ s
    exact loadAmp_only _ _ s) s

theorem runAmpPolicy_only (h : ReqHdr) (d : Nat) (s : State) : Only ampParts s (runAmpPolicy h d s) :=
  takeRequest_only (by decide) (fun s => by
    repeat' split
    all_goals try with_reducible exact refuse_only _ _ s
    exact (setPower_only _ s).mono (by decide)) s

theorem runFaultClear_only (h : ReqHdr) (g : Nat) (s : State) : Only ampParts s (runFaultClear h g s) :=
  takeRequest_only (by decide) (fun s => by
    repeat' split
    all_goals try with_reducible exact refuse_only _ _ s
    exact ((leaveFault_only g s).mono fault_amp).trans (conclude_amp s _)) s

end Sys2Proof.Machine
end

