-- ==== Sys2Proof/Laws/Ops.lean ====
section
/-! SUPPORT. What the shared operations do: reading a numbered record after a change of one, loops over numbered records, the
egress queue, and the three checks of a request. -/

namespace Sys2Proof.Machine

/-! Reading after a change -/

theorem getD_modify {α : Type} (l : List α) (i j : Nat) (f : α → α) (d : α) :
    (l.modify i f).getD j d = if i = j ∧ j < l.length then f (l.getD j d) else l.getD j d := by
  simp only [List.getD_eq_getElem?_getD, List.getElem?_modify]
  by_cases hj : j < l.length
  · by_cases hi : i = j <;> simp [hj, hi]
  · simp [hj]

theorem port_modPort (s : State) (p q : Nat) (f : Port → Port) :
    (s.modPort p f).port q = if p = q ∧ q < s.ports.length then f (s.port q) else s.port q := getD_modify _ _ _ _ _

theorem bus_modBus (s : State) (p q : Nat) (f : Bus → Bus) :
    (s.modBus p f).bus q = if p = q ∧ q < s.buses.length then f (s.bus q) else s.bus q := getD_modify _ _ _ _ _

theorem voice_modVoice (s : State) (p q : Nat) (f : Voice → Voice) :
    (s.modVoice p f).voice q = if p = q ∧ q < s.tone.voices.length then f (s.voice q) else s.voice q := getD_modify _ _ _ _ _

theorem group_modGroup (s : State) (p q : Nat) (f : Group → Group) :
    (s.modGroup p f).group q = if p = q ∧ q < s.talk.groups.length then f (s.group q) else s.group q := getD_modify _ _ _ _ _

theorem gate_modGate (s : State) (p q : Nat) (f : Gate → Gate) :
    (s.modGate p f).gate q = if p = q ∧ q < s.showCtl.gates.length then f (s.gate q) else s.gate q := getD_modify _ _ _ _ _

theorem line_modLine (s : State) (p q : Nat) (f : Line → Line) :
    (s.modLine p f).line q = if p = q ∧ q < s.showCtl.lines.length then f (s.line q) else s.line q := getD_modify _ _ _ _ _

theorem amp_modAmp (s : State) (p q : Nat) (f : Amp → Amp) :
    (s.modAmp p f).amp q = if p = q ∧ q < s.power.groups.length then f (s.amp q) else s.amp q := getD_modify _ _ _ _ _

theorem zone_modZone (s : State) (p q : Nat) (f : Zone → Zone) :
    (s.modZone p f).zone q = if p = q then (s.zone q).map f else s.zone q := by
  unfold State.modZone State.zone
  simp only [State.setZones_zones, getD_modify]
  by_cases hp : p = q
  · by_cases hq : q < s.zones.length
    · simp [hp, hq]
    · simp [hp, hq, List.getD_eq_getElem?_getD]
  · simp [hp]

theorem claim_modClaim (s : State) (p q : Nat) (f : Claim → Claim) :
    (s.modClaim p f).claim q = if p = q then (s.claim q).map f else s.claim q := by
  unfold State.modClaim State.claim
  simp only [State.setClaims_claims, getD_modify]
  by_cases hp : p = q
  · by_cases hq : q < s.claims.table.length
    · simp [hp, hq]
    · simp [hp, hq, List.getD_eq_getElem?_getD]
  · simp [hp]

/-! Loops -/

theorem forUpTo_succ {σ : Type} (n : Nat) (f : Nat → σ → σ) (s : σ) : forUpTo (n + 1) f s = f n (forUpTo n f s) := by
  simp [forUpTo, List.range_succ]

theorem forEach_nil {α σ : Type} (f : α → σ → σ) (s : σ) : forEach [] f s = s := rfl

theorem forEach_cons {α σ : Type} (a : α) (l : List α) (f : α → σ → σ) (s : σ) :
    forEach (a :: l) f s = forEach l f (f a s) := rfl

/-- What holds before a loop and is kept by each round holds after it. -/
theorem forUpTo_keeps {σ : Type} {P : σ → Prop} {f : Nat → σ → σ} (h : ∀ i s, P s → P (f i s)) (n : Nat) (s : σ) (hs : P s) :
    P (forUpTo n f s) := by
  induction n with
  | zero => exact hs
  | succ n ih => rw [forUpTo_succ]; exact h n _ ih

/-- What holds before a loop and is kept by each round holds after it. -/
theorem forEach_keeps {α σ : Type} {P : σ → Prop} {f : α → σ → σ} (l : List α) (h : ∀ a s, P s → P (f a s)) (s : σ) (hs : P s) :
    P (forEach l f s) := by
  induction l generalizing s with
  | nil => exact hs
  | cons a l ih => exact ih (f a s) (h a s hs)

/-! The egress queue -/

theorem Port.queue_cases (c : Cell) (q : Port) :
    (q.egress.length < 8 ∧ q.queue c = { q with egress := q.egress ++ [c] }) ∨
    (8 ≤ q.egress.length ∧ q.queue c = { q with drops := bump16 q.drops }) := by
  unfold Port.queue
  by_cases h : q.egress.length < Config.egressDepth
  · exact .inl ⟨h, if_pos h⟩
  · exact .inr ⟨Nat.le_of_not_lt h, if_neg h⟩

theorem Port.queue_state (c : Cell) (q : Port) : (q.queue c).state = q.state := by
  rcases q.queue_cases c with ⟨-, h⟩ | ⟨-, h⟩ <;> rw [h]

theorem port_queueCell (s : State) (p q : Nat) (c : Cell) :
    (queueCell p c s).port q = if p = q ∧ q < s.ports.length then (s.port q).queue c else s.port q := port_modPort _ _ _ _

theorem portUp_queueCell (s : State) (p q : Nat) (c : Cell) : (queueCell p c s).portUp q = s.portUp q := by
  unfold State.portUp
  rw [port_queueCell]
  split
  · rw [Port.queue_state]
  · rfl

/-! A request -/

theorem takeRequest_inReset {h : ReqHdr} {len : Nat} {cls : AuthClass} {body : State → Answer} {s : State}
    (hr : s.pins.resetLow = true) : takeRequest h len cls body s = s := by simp [takeRequest, hr]

theorem takeRequest_format {h : ReqHdr} {len : Nat} {cls : AuthClass} {body : State → Answer} {s : State}
    (hr : s.pins.resetLow = false) (hl : 26 < len) : takeRequest h len cls body s = replyTo h .refusedFormat [] s := by
  simp [takeRequest, hr, hl]

theorem takeRequest_authority {h : ReqHdr} {len : Nat} {cls : AuthClass} {body : State → Answer} {s : State}
    (hr : s.pins.resetLow = false) (hl : len ≤ 26) (ha : holdsClass s h.src cls = false) :
    takeRequest h len cls body s = replyTo h .refusedAuthority [] s := by
  simp [takeRequest, hr, Nat.not_lt.mpr hl, ha]

theorem takeRequest_answer {h : ReqHdr} {len : Nat} {cls : AuthClass} {body : State → Answer} {s : State}
    (hr : s.pins.resetLow = false) (hl : len ≤ 26) (ha : holdsClass s h.src cls = true) :
    takeRequest h len cls body s = replyTo h (body s).code (body s).data (body s).state := by
  simp [takeRequest, hr, Nat.not_lt.mpr hl, ha]

/-- The four ways a request is taken. -/
theorem takeRequest_cases (h : ReqHdr) (len : Nat) (cls : AuthClass) (body : State → Answer) (s : State) :
    (s.pins.resetLow = true ∧ takeRequest h len cls body s = s) ∨
    (s.pins.resetLow = false ∧ 26 < len ∧ takeRequest h len cls body s = replyTo h .refusedFormat [] s) ∨
    (s.pins.resetLow = false ∧ len ≤ 26 ∧ holdsClass s h.src cls = false ∧
      takeRequest h len cls body s = replyTo h .refusedAuthority [] s) ∨
    (s.pins.resetLow = false ∧ len ≤ 26 ∧ holdsClass s h.src cls = true ∧
      takeRequest h len cls body s = replyTo h (body s).code (body s).data (body s).state) := by
  cases hr : s.pins.resetLow
  · by_cases hl : 26 < len
    · exact .inr (.inl ⟨rfl, hl, takeRequest_format hr hl⟩)
    · have hl := Nat.not_lt.mp hl
      cases ha : holdsClass s h.src cls
      · exact .inr (.inr (.inl ⟨rfl, hl, rfl, takeRequest_authority hr hl ha⟩))
      · exact .inr (.inr (.inr ⟨rfl, hl, rfl, takeRequest_answer hr hl ha⟩))
  · exact .inl ⟨rfl, takeRequest_inReset hr⟩

/-! Frames -/

theorem beNat_beBytes_two (c : BitVec 16) : beNat (beBytes 2 c.toNat) = c.toNat := by
  have := c.isLt
  simp [beNat, beBytes, byteOf]; omega

/-- R1: 108 bytes between the two opening bytes and their check word are a good frame. -/
theorem frameGood_of_body (body : List Byte) (hl : body.length = 108) :
    frameGood ([167#8, 60#8] ++ body ++ beBytes 2 (crc16 body).toNat) = true := by
  have h1 : field ([167#8, 60#8] ++ body ++ beBytes 2 (crc16 body).toNat) 110 2 = beBytes 2 (crc16 body).toNat := by
    simp [field, hl, beBytes]
  have h2 : field ([167#8, 60#8] ++ body ++ beBytes 2 (crc16 body).toNat) 2 108 = body := by
    simp [field, hl]
  simp only [frameGood, h1, h2, beNat_beBytes_two]
  simp [hl, beBytes]

end Sys2Proof.Machine
end

