-- ==== Sys2Proof/Laws/Whole.lean ====
section
/-! SUPPORT. The resets, the arrival of a frame and the frame period: what they may change, and that the pins and the queue of
commands are not theirs. -/

namespace Sys2Proof.Machine

/-! RESET-NODE with scope JOBS -/

/-- What RESET-NODE with scope JOBS may change. -/
def jobsParts : List Part := [.crosspoints, .engine, .autoFollow, .scan] ++ settling

theorem settling_jobs : ∀ p ∈ settling, p ∈ jobsParts := settling_append _

theorem releaseTalkers_only (s : State) : Only jobsParts s (releaseTalkers s) := by
  unfold releaseTalkers
  refine Only.trans ?_ ((sendNotes_only _ _).mono (by decide))
  intro q hq
  cases q <;> simp_all [Part.same, jobsParts, settling]
  intro g _
  exact ⟨(dropAll_keeps g).1, by simpa using (dropAll_keeps g).2⟩

theorem completeAll_only (s : State) : Only [.crosspoints] s (completeAll s) := by
  intro q hq
  cases q <;> simp_all [Part.same, completeAll]
  all_goals
    intro b _
    split <;> simp_all

theorem idleEngine_only (s : State) : Only [.engine, .autoFollow] s (idleEngine s) := by
  intro q hq
  cases q <;> simp_all [Part.same, idleEngine]

theorem stopScan_only (s : State) : Only [.scan, .windowMarks] s (stopScan s) := by
  intro q hq
  cases q <;> simp_all [Part.same, stopScan, modScan]

theorem endAllClaims_only (e : Ev) : Only arbiterParts e.st (endAllClaims e).st :=
  forUpTo_ev_only (endClaim_only .reset) _ e

theorem resetJobs_only (s : State) : Only jobsParts s (resetJobs s) := by
  unfold resetJobs
  dsimp only
  generalize hs : stopScan (idleEngine (completeAll (releaseTalkers s))) = u
  have h1 : Only jobsParts s u := by
    subst hs
    have h1 := fun u => (completeAll_only u).mono (m := jobsParts) (by decide)
    have h2 := fun u => (idleEngine_only u).mono (m := jobsParts) (by decide)
    have h3 := fun u => (stopScan_only u).mono (m := jobsParts) (by decide)
    exact (((releaseTalkers_only s).trans (h1 _)).trans (h2 _)).trans (h3 _)
  have h2 := (endAllClaims_only { st := u, ended := [] }).mono (m := jobsParts) (by decide)
  exact (h1.trans h2).trans ((closeSettle_only false s _).mono settling_jobs)

theorem runResetNodeJobs_only (h : ReqHdr) (s : State) : Only jobsParts s (runResetNodeJobs h s) :=
  takeRequest_only (by decide) (fun s => by simpa only [done] using resetJobs_only s) s

/-! The pins and the queue of commands -/

/-- The pins and the queue of commands stand in t as in s. -/
def KeepsPins (s t : State) : Prop := t.pins = s.pins ∧ t.pending = s.pending

theorem KeepsPins.refl (s : State) : KeepsPins s s := ⟨rfl, rfl⟩

theorem KeepsPins.trans {s t u : State} (h : KeepsPins s t) (h' : KeepsPins t u) : KeepsPins s u :=
  ⟨h'.1.trans h.1, h'.2.trans h.2⟩

theorem Only.keepsPins {l : List Part} {s t : State} (h : Only l s t) (hp : Part.pins ∉ l) (hq : Part.pending ∉ l) :
    KeepsPins s t := ⟨h .pins hp, h .pending hq⟩

theorem Only.keepsPending {l : List Part} {s t : State} (h : Only l s t) (hq : Part.pending ∉ l) : t.pending = s.pending :=
  h .pending hq

/-- A command that keeps the pins and the queue. -/
def KeepsPinsAlways (f : State → State) : Prop := ∀ s, KeepsPins s (f s)

theorem replyTo_keepsPins (h : ReqHdr) (code : ReplyCode) (data : List Byte) : KeepsPinsAlways (replyTo h code data) :=
  fun s => (replyTo_only h code data s).keepsPins (by decide) (by decide)

theorem queueCopies_keepsPins (ps : List Nat) (c : Cell) : KeepsPinsAlways (queueCopies ps c) :=
  fun s => (queueCopies_only ps c s).keepsPins (by decide) (by decide)

theorem takeResetAll_keepsPins (h : ReqHdr) (c : Cell) : KeepsPinsAlways (takeResetAll h c) := by
  intro s
  unfold takeResetAll
  split
  · exact .refl s
  · split
    · exact replyTo_keepsPins _ _ _ s
    · unfold acceptResetAll
      have h1 : KeepsPins s (resetAll s) := ⟨rfl, rfl⟩
      split
      · exact h1.trans (queueCopies_keepsPins _ _ _)
      · exact h1

theorem cellRequest_keepsPins {h : ReqHdr} {len : Nat} {cls : AuthClass} {body : State → Answer}
    (hb : ∀ s, Only ([.fireSources, .contact] ++ alarming) s (body s).state) :
    KeepsPinsAlways (takeRequest h len cls body) :=
  fun s => (takeRequest_only (by decide) hb s).keepsPins (by decide) (by decide)

theorem concludeAlarm_cell (before s : State) : Only ([.fireSources, .contact] ++ alarming) s (concludeAlarm before s) :=
  (concludeAlarm_only before s).mono (alarming_append _)

theorem alarmSet_keepsPins (h : ReqHdr) (z : BitVec 16) (k : Nat) : KeepsPinsAlways (runAlarmSet h z k) :=
  cellRequest_keepsPins (fun s => by
    repeat' split
    all_goals try with_reducible exact refuse_only _ _ s
    exact ((writeCellKinds_only _ _ s).mono (by decide)).trans (concludeAlarm_cell s _))

theorem alarmClearCell_keepsPins (h : ReqHdr) (z : BitVec 16) : KeepsPinsAlways (runAlarmClearCell h z) :=
  cellRequest_keepsPins (fun s => by
    repeat' split
    all_goals try with_reducible exact refuse_only _ _ s
    exact ((writeCellKinds_only _ _ s).mono (by decide)).trans (concludeAlarm_cell s _))

theorem alarmClearContact_keepsPins (h : ReqHdr) : KeepsPinsAlways (runAlarmClearContact h) :=
  cellRequest_keepsPins (fun s => by
    repeat' split
    all_goals try with_reducible exact refuse_only _ _ s
    exact ((setContactLatch_only _ s).mono (by decide)).trans (concludeAlarm_cell s _))

/-- No request touches the pins or the queue of commands. -/
theorem runRequest_keepsPins (i : Instr) : KeepsPinsAlways (runRequest i) := by
  intro s
  cases i
  case loadSignal => exact (runLoadSignal_only _ _ _ _ _ _ s).keepsPins (by decide) (by decide)
  case alarmSet => exact alarmSet_keepsPins _ _ _ s
  case alarmClearCell => exact alarmClearCell_keepsPins _ _ s
  case alarmClearContact => exact alarmClearContact_keepsPins _ s
  case resetNodeAll => exact takeResetAll_keepsPins _ _ s
  case loadPort => exact (runLoadPort_only _ _ _ s).keepsPins (by decide) (by decide)
  case loadStreamMap => exact (runLoadStreamMap_only _ _ _ _ s).keepsPins (by decide) (by decide)
  case loadStreamUnmap => exact (runLoadStreamUnmap_only _ _ s).keepsPins (by decide) (by decide)
  case loadRoute => exact (runLoadRoute_only _ _ _ s).keepsPins (by decide) (by decide)
  case loadAuth => exact (runLoadAuth_only _ _ _ s).keepsPins (by decide) (by decide)
  case setReport => exact (runSetReport_only _ _ s).keepsPins (by decide) (by decide)
  case read => exact (runRead_only _ _ _ _ s).keepsPins (by decide) (by decide)
  case clearCountsPort => exact (runClearCountsPort_only _ _ s).keepsPins (by decide) (by decide)
  case clearCountsBus => exact (runClearCountsBus_only _ _ s).keepsPins (by decide) (by decide)
  case clearCountsEvery => exact (runClearCountsEvery_only _ s).keepsPins (by decide) (by decide)
  case resetNodeJobs => exact (runResetNodeJobs_only _ s).keepsPins (by decide) (by decide)
  case loadOutput => exact (runLoadOutput_only _ _ _ _ _ s).keepsPins (by decide) (by decide)
  case loadZoneLoad => exact (runLoadZoneLoad_only _ _ _ _ _ _ _ _ _ _ _ s).keepsPins (by decide) (by decide)
  case loadZoneUnload => exact (runLoadZoneUnload_only _ _ s).keepsPins (by decide) (by decide)
  case cabinLevel => exact (runCabinLevel_only _ _ _ s).keepsPins (by decide) (by decide)
  case pageOpen => exact (runPageOpen_only _ _ _ _ _ _ _ _ _ s).keepsPins (by decide) (by decide)
  case pageClose => exact (runPageClose_only _ _ s).keepsPins (by decide) (by decide)
  case loadCadence => exact (runLoadCadence_only _ _ _ _ _ s).keepsPins (by decide) (by decide)
  case loadGroup => exact (runLoadGroup_only _ _ _ _ _ s).keepsPins (by decide) (by decide)
  case talkKeyOn => exact (runTalkKeyOn_only _ _ s).keepsPins (by decide) (by decide)
  case talkKeyOff => exact (runTalkKeyOff_only _ _ s).keepsPins (by decide) (by decide)
  case loadSceneScope => exact (runLoadSceneScope_only _ _ _ s).keepsPins (by decide) (by decide)
  case loadSceneEntries => exact (runLoadSceneEntries_only _ _ _ _ s).keepsPins (by decide) (by decide)
  case loadCueLoad => exact (runLoadCueLoad_only _ _ _ _ _ _ s).keepsPins (by decide) (by decide)
  case loadCueUnload => exact (runLoadCueUnload_only _ _ s).keepsPins (by decide) (by decide)
  case loadCueMark => exact (runLoadCueMark_only _ _ s).keepsPins (by decide) (by decide)
  case loadLineGate => exact (runLoadLineGate_only _ _ _ _ s).keepsPins (by decide) (by decide)
  case loadLineStatus => exact (runLoadLineStatus_only _ _ _ _ _ s).keepsPins (by decide) (by decide)
  case go => exact (runGo_only _ s).keepsPins (by decide) (by decide)
  case goto => exact (runGoto_only _ _ s).keepsPins (by decide) (by decide)
  case applyScene => exact (runApplyScene_only _ _ _ s).keepsPins (by decide) (by decide)
  case showClearShowStop => exact (runShowClearShowStop_only _ s).keepsPins (by decide) (by decide)
  case showClearCueMark => exact (runShowClearCueMark_only _ s).keepsPins (by decide) (by decide)
  case showClearLines => exact (runShowClearLines_only _ s).keepsPins (by decide) (by decide)
  case loadSensorLoad => exact (runLoadSensorLoad_only _ _ _ _ _ _ _ _ s).keepsPins (by decide) (by decide)
  case loadSensorUnload => exact (runLoadSensorUnload_only _ _ s).keepsPins (by decide) (by decide)
  case loadCurve => exact (runLoadCurve_only _ _ _ _ s).keepsPins (by decide) (by decide)
  case scanStart => exact (runScanStart_only _ _ _ _ s).keepsPins (by decide) (by decide)
  case scanStop => exact (runScanStop_only _ s).keepsPins (by decide) (by decide)
  case loadAmp => exact (runLoadAmp_only _ _ _ _ _ _ _ _ _ _ s).keepsPins (by decide) (by decide)
  case ampPolicy => exact (runAmpPolicy_only _ _ s).keepsPins (by decide) (by decide)
  case faultClear => exact (runFaultClear_only _ _ s).keepsPins (by decide) (by decide)
  all_goals exact .refl s

theorem takeLocal_keepsPins (p : Fin 6) (c : Cell) : KeepsPinsAlways (takeLocal p c) := by
  intro s
  unfold takeLocal
  dsimp only
  repeat' split
  all_goals first
    | exact replyTo_keepsPins _ _ _ s
    | exact takeResetAll_keepsPins _ _ s
    | exact runRequest_keepsPins _ s

theorem takeCell_keepsPins (p : Fin 6) (c : Cell) : KeepsPinsAlways (takeCell p c) := by
  intro s
  unfold takeCell
  repeat' split
  · exact .refl s
  · exact .refl s
  · exact takeLocal_keepsPins p c s
  · unfold takeBroadcast
    have h1 : ∀ u, KeepsPins u (queueCopies (broadcastPorts s p.val) c u) := queueCopies_keepsPins _ c
    repeat' split
    · exact takeLocal_keepsPins p c s
    · exact (h1 s).trans (takeLocal_keepsPins p c _)
    · exact h1 s
  · exact (forwardCell_only _ c s).keepsPins (by decide) (by decide)

theorem handOn_keepsPins (p : Fin 6) (bytes : List Byte) : KeepsPinsAlways (handOn p bytes) := by
  intro s
  unfold handOn
  dsimp only
  have h1 : KeepsPins s (takeCell p (frameCell bytes) (writeSlots p.val (frameSlot bytes) s)) :=
    ((writeSlots_only _ _ s).keepsPins (by decide) (by decide)).trans (takeCell_keepsPins _ _ _)
  split
  · refine h1.trans ?_
    unfold takeAlarmWord
    refine KeepsPins.trans ?_ ((concludeAlarm_only _ _).keepsPins (by decide) (by decide))
    exact KeepsPins.trans ⟨rfl, rfl⟩ ((computeBeacon_only _).keepsPins (by decide) (by decide))
  · exact h1

theorem portRaised_keepsPins (p : Nat) : KeepsPinsAlways (portRaised p) := by
  intro s
  unfold portRaised
  dsimp only
  have h1 : KeepsPins s (portNotice p true (reselectStreams p s)) :=
    ((reselectStreams_only p s).keepsPins (by decide) (by decide)).trans
      ((portNotice_only _ _ _).keepsPins (by decide) (by decide))
  split
  · exact h1.trans ((setIslandHold_only false _).keepsPins (by decide) (by decide))
  · exact h1

/-- No frame touches the pins or the queue of commands. -/
theorem runFrameArrival_keepsPins (p : Fin 6) (bytes : List Byte) : KeepsPinsAlways (runFrameArrival p bytes) := by
  intro s
  unfold runFrameArrival whileRunning
  split
  · exact .refl s
  · split
    · unfold goodFrame
      dsimp only
      generalize hs1 : s.modPort p.val (Port.goodFrame (frameSender bytes)) = s1
      have h1 : KeepsPins s s1 := hs1 ▸ ⟨rfl, rfl⟩
      generalize hs2 : (if (s1.portUp p.val && !s.portUp p.val) = true then updateLines s (portRaised p.val s1) else s1) = s2
      have h2 : KeepsPins s1 s2 := by
        subst hs2
        split
        · exact (portRaised_keepsPins _ s1).trans ((updateLines_only s _).keepsPins (by decide) (by decide))
        · exact .refl s1
      split
      · exact (h1.trans h2).trans (handOn_keepsPins p bytes s2)
      · exact h1.trans h2
    · exact ⟨rfl, rfl⟩

/-! The frame period -/

theorem countAll_pending (s : State) : (countAll s).pending = s.pending := rfl

/-- A loop whose rounds keep the queue of commands keeps it. -/
theorem forUpTo_pending {f : Nat → State → State} (h : ∀ i s, (f i s).pending = s.pending) (n : Nat) (s : State) :
    (forUpTo n f s).pending = s.pending :=
  forUpTo_keeps (P := fun t => t.pending = s.pending) (fun i t ht => (h i t).trans ht) n s rfl

theorem ite_pending {c : Prop} [Decidable c] {s t : State} (h : t.pending = s.pending) :
    (if c then t else s).pending = s.pending := by
  split
  · exact h
  · rfl

/-- No expiry touches the queue of commands. -/
theorem dueAll_pending (s : State) : (dueAll s).pending = s.pending := by
  have hp : ∀ p u, (duePort p u).pending = u.pending := fun p u =>
    ite_pending ((runLossTimerExpiry_only p u).keepsPending (by decide))
  have hc : ∀ u, (dueContact u).pending = u.pending := fun u =>
    ite_pending ((runContactDebounceComplete_only _ u).keepsPending (by decide))
  have ha : ∀ u, (dueAutoFollow u).pending = u.pending := fun u =>
    ite_pending ((runAutoFollowExpiry_only u).keepsPending (by decide))
  have hg : ∀ n u, (dueGate n u).pending = u.pending := fun n u =>
    ite_pending ((runGateDebounceComplete_only _ _ u).keepsPending (by decide))
  have hv : ∀ u, (endPhases u).pending = u.pending := fun u => (endPhases_only u).keepsPending (by decide)
  have hcl : ∀ n u, (dueClaim n u).pending = u.pending := fun n u =>
    (ite_pending ((runSourceWatchExpiry_only n _).keepsPending (by decide))).trans
      (ite_pending ((runTimeLimitExpiry_only n u).keepsPending (by decide)))
  have hm : ∀ n u, (dueGroup n u).pending = u.pending := fun n u =>
    forUpTo_pending (fun i u => ite_pending ((runTalkTimerExpiry_only n i u).keepsPending (by decide))) _ u
  have hamp : ∀ n u, (dueAmp n u).pending = u.pending := fun n u =>
    (ite_pending (c := _) ((runFullWindow_only n _).keepsPending (by decide))).trans
      (ite_pending ((runWakeTimerExpiry_only n u).keepsPending (by decide)))
  have hw : ∀ u, (dueWindow u).pending = u.pending := fun u =>
    ite_pending ((runScanWindowComplete_only u).keepsPending (by decide))
  unfold dueAll
  dsimp only
  rw [hw, forUpTo_pending hamp, forUpTo_pending hm, forUpTo_pending hcl, hv, forUpTo_pending hg, ha, hc,
    forUpTo_pending hp]

theorem endPeriod_pending (s : State) : (endPeriod s).pending = s.pending := rfl

theorem framePeriod_pending (s : State) : (framePeriod s).pending = s.pending := by
  unfold framePeriod whileRunning
  split
  · rfl
  · exact (endPeriod_pending _).trans ((dueAll_pending _).trans (countAll_pending s))

end Sys2Proof.Machine
end

