-- ==== Sys2Proof/Tests/Slice0.lean ====
section
/-! SUPPORT. Tests: ill-formed terms for every check of WellFormed, single steps whose expected results are the spec's worked figures,
and for every statement with hypotheses a state and operands that meet them, clause by clause, at the ends of their ranges. -/

namespace Sys2Proof.Tests

set_option Elab.async false

open Sys2Proof.Machine

/-! States and headers -/

/-- A request of node 9 that arrived on port 2. -/
def hd : ReqHdr := { port := 2, src := 9, tag := 7, bcast := false }
def hdSrc : ReqHdr := { hd with src := 256 }
def hdTag : ReqHdr := { hd with tag := 256 }
/-- The state a command leaves. -/
def after (c : Instr) (s : State) : State :=
  match exec c s with
  | .next t => t
  | .fault _ => s
  | .refused _ => s
/-- Port p UP, a trunk with a received word. -/
def up (p : Nat) (s : State) : State :=
  s.modPort p (fun q => { q with state := .up, good := 8, loss := some 0,
                                 rxAlarm := if p < 2 then some { mask := 0, kind := none } else none })
/-- Both trunks and two spurs UP. -/
def u : State := up 0 (up 1 (up 2 (up 3 State.reset)))
/-- Port p SEEKING with a good count. -/
def seeking (p good : Nat) (s : State) : State := s.modPort p (fun q => { q with state := .seeking, good := good, loss := some 0 })
/-- A LOADED zone with the default settings. -/
def zoneOf (kind : ZoneKind) (bus : Nat) : Zone :=
  { kind := kind, fireZone := 1, buses := [bus], duck := 4096, threshold := 5, override := 16384, layerStep := 64, sensor := some 0,
    amp := some 0, cabinLevel := 9, mode := .normal, held := false, kp := 0, kv := 0, ka := 0, kpTarget := 0, kvTarget := 0,
    kaTarget := 0, applied := none, compCur := 16384, compTarget := 16384 }
def withZone (z : Nat) (n : Zone) (s : State) : State := s.setZones (s.zones.set z (some n))
def withBus (b : Nat) (f : Bus → Bus) (s : State) : State := s.modBus b f
def withStream (n : Nat) (e : Stream) (s : State) : State := s.setStreams (s.streams.set n e)
def inputStream (i : Nat) (x : Sample) : Stream := { state := .primary, primary := some (.localIn i), backup := none, sample := x }
def entryOf (stream cur target : Nat) (mode : ChangeMode) : XPoint :=
  { stream := stream, cur := cur, target := target, mode := mode, step := none, pending := none, wait := 0, prev := 0, retiring := false }
/-- Buses 0 to 3 are ZONE buses, 0 and 1 of zones 0 (CABIN) and 1 (THEATRE); buses 4 to 7 are TALK buses. -/
def w : State :=
  withZone 0 (zoneOf .cabin 0) (withZone 1 { zoneOf .theatre 1 with sensor := none, amp := none }
    (u.setBuses (u.buses.mapIdx (fun b r =>
      if b < 4 then { r with role := .zone, zone := if b < 2 then some b else none } else if b < 8 then { r with role := .talk } else r))))
/-- `w` with zones of no amp group, each at the targets of its layer mode. -/
def calm : State :=
  withZone 0 { zoneOf .cabin 0 with sensor := none, amp := none, kpTarget := 2062 }
    (withZone 1 { zoneOf .theatre 1 with sensor := none, amp := none, kpTarget := 16384 } w)
/-- A claim of a state, priority and source with zone 0 as its target. -/
def claimOf (st : ClaimState) (prio source : Nat) : Claim :=
  { state := st, origin := 9, originPort := 2, priority := prio, source := source, targets := [(0, .head)], all := false, wait := true,
    drop := false, chime := none, limit := 0, started := true, chimeSkipped := false, voice := none, timer := some 1, watch := 0, rank := 0 }
/-- Claim 0 stands LIVE in zone 0. -/
def cl : State := w.setClaims { table := w.claims.table.set 0 (some (claimOf .live 3 0)), lists := w.claims.lists.set 0 [0] }
def memberOf (station stream bus : Nat) (prio : Bool) (st : TalkState) : Member :=
  { station := station, stream := stream, bus := bus, gain := 16384, prio := prio, latching := true, timeout := 1, state := st,
    timer := if st = .talking then some 48000 else none }
/-- Group 0: node 9 IDLE with priority, node 11 TALKING; the limit is given. -/
def talk (limit : Nat) : State := w.modGroup 0 (fun _ =>
  { limit := limit, members := [memberOf 9 0 4 true .idle, memberOf 11 1 5 false .talking], talkers := [1] })
/-- Scene 3 and cues 7 and 8 in the manner of section 9.9, on bus 1. -/
def show9 : State :=
  calm.setShow { calm.showCtl with
    scenes := w.showCtl.scenes.set 3 { scope := 2#64, entries := [⟨1, 60, 16384, .ramp⟩, ⟨1, 61, 8192, .ramp⟩] }
    cues := (w.showCtl.cues.set 7 (some { scene := 3, crossfade := 100, autoFollow := some 5000, next := none })).set 0
      (some { scene := 3, crossfade := 0, autoFollow := some 0, next := some 63 })
    cueMark := some 7 }
/-- Amp group 0 in a state, its demand and inputs low. -/
def ampIn (st : AmpState) (r : Option FaultReason) : State :=
  w.modAmp 0 (fun a => { a with state := st, reason := r, wakeTimer := if st = .waking then some 1 else none })
/-- A frame of node 77 with alarm word GENERAL in fire zone 1, 24 equal slots and a cell. -/
def frame (cell : Cell) : List Byte := frameBytes 77 1#16 3 (List.replicate 24 51870) cell
/-- A window of sensor 0 that is complete, with level 300,000. -/
def window (level : Nat) (mark : Bool) : State :=
  w.setAmbient { w.ambient with
    sensors := w.ambient.sensors.set 0 (some { suspect := false, input := 5, offset := 0, low := 20000, high := 2000000, curve := 1,
                                               compStep := 256, last := none })
    curves := w.ambient.curves.set 1 [(100000, 18000), (250000, 20000), (400000, 24000), (600000, 28000)]
    scan := { continuous := true, first := 0, last := 1, sensor := 0,
              window := some { fresh := false, elapsed := 4800, sum := level * 4800 + 2400, input := 5, offset := 0, zones := [(0, mark)] } } }

theorem sized_reset : Sized State.reset := by constructor <;> decide +kernel
theorem sized_u : Sized u := by constructor <;> decide +kernel
theorem sized_w : Sized w := by constructor <;> decide +kernel
theorem sized_cl : Sized cl := by constructor <;> decide +kernel
theorem sized_talk (n : Nat) : Sized (talk n) :=
  { sized_w with groups := (List.length_modify ..).trans sized_w.groups }
theorem sized_show9 : Sized show9 := by constructor <;> decide +kernel
theorem sized_ampIn (st : AmpState) (r : Option FaultReason) : Sized (ampIn st r) :=
  { sized_w with amps := (List.length_modify ..).trans sized_w.amps }
theorem sized_window (n : Nat) (b : Bool) : Sized (window n b) :=
  { sized_w with sensors := List.length_set.trans sized_w.sensors, curves := List.length_set.trans sized_w.curves }
/-- While the authority table is empty every class is held. -/
theorem admitted {h : ReqHdr} {c : AuthClass} {s : State} (h1 : s.pins.resetLow = false) (h2 : s.node.auth = []) : Admitted h c s :=
  ⟨h1, by simp [holdsClass, h2]⟩

/-- Every command answers a next state, which `after` names. -/
theorem ran (c : Instr) (s : State) : exec c s = .next (after c s) := by cases c <;> rfl

/-- R1: every frame of the tests is good. -/
theorem frame_good (c : Cell) : frameGood (frame c) = true :=
  frameGood_of_body _ (by simp [cellBytes, beBytes, sampleBytes, List.replicate])

/-! States for the witnesses -/

/-- A state whose reset input is low. -/
def low : State := u.setPins { u.pins with resetLow := true }
/-- An authority table of given entries. -/
def auth (l : List AuthEntry) (s : State) : State := s.setNode { s.node with auth := l }
/-- Sixteen entries, each holding class BRIDGE; node 9 is among them. -/
def auth16 : State := auth ((List.range 16).map (fun i => { id := i, config := false, bridge := true, operator := false })) u
/-- Every delay pool position is taken by 64 lines of 512. -/
def pool : State := u.setBuses (List.replicate 64 { busReset with line := List.replicate 512 0 })
/-- Zones 0 and 1 stand under FIRE. -/
def fire : State := w.setZones (w.zones.map (Option.map (fun n => { n with applied := some .fire })))
/-- Every claim record is in use. -/
def fullTable : State := w.setClaims { w.claims with table := List.replicate 48 (some (claimOf .live 3 0)) }
/-- The claim list of zone 0 holds six claims of priority 7. -/
def fullList : State := w.setClaims
  { table := (List.replicate 6 (some (claimOf .queued 7 0))) ++ List.replicate 42 none,
    lists := [0, 1, 2, 3, 4, 5] :: List.replicate 95 [] }
/-- Voice 7 plays a cadence for a holder. -/
def voice (hd : Holder) (cad step rep passes : Nat) (ph : StepPhase) (timer : Nat)
    (s : State) : State := s.modVoice 7 (fun _ =>
  { holder := hd, cadence := some cad, step := step, rep := rep, phase := ph, timer := timer, passes := passes, osc := 5, sample := 0 })
/-- Claim 0 is CHIMING in zone 0 on voice 7, with a time limit. -/
def chiming : State :=
  let c := { claimOf .chiming 3 0 with chime := some 0, voice := some 7, limit := 10, timer := none, started := false }
  (voice (.claim 0) 0 1 1 0 .off 0 cl).setClaims { cl.claims with table := cl.claims.table.set 0 (some c) }
/-- The scan measures sensor 0 and sensors 0 to 1 are its range. -/
def scanning : State := window 300000 false

theorem sized_low : Sized low := by constructor <;> decide +kernel
theorem sized_pool : Sized pool := by constructor <;> decide +kernel
theorem sized_fire : Sized fire := by constructor <;> decide +kernel
theorem sized_fullTable : Sized fullTable := by constructor <;> decide +kernel
theorem sized_fullList : Sized fullList := by constructor <;> decide +kernel
theorem sized_chiming : Sized chiming := by constructor <;> decide +kernel
theorem sized_voice (h : Holder) (c st r p : Nat) (ph : StepPhase) (n : Nat) : Sized (voice h c st r p ph n w) :=
  { sized_w with voices := (List.length_modify ..).trans sized_w.voices }

/-- Group 0 with one member of station 9 in a state, beside the talker of station 11. -/
def keyed (prio : Bool) (st : TalkState) : State := (talk 1).modGroup 0 (fun g =>
  { g with members := g.members.set 0 { memberOf 9 0 4 prio st with timer := if st = .suspended then some 1 else none } })
/-- Group 0 has nine members, of stations 20 to 28. -/
def nine : State := w.modGroup 0 (fun g => { g with members := (List.range 9).map (fun i => memberOf (20 + i) i (10 + i) false .idle) })
/-- All 2,048 places of the scene entry pool are taken; scene 3 is empty. -/
def fullPool : State := show9.setShow { show9.showCtl with
  scenes := (List.range 16).map (fun i =>
    { scope := 2, entries := List.replicate (if i = 3 then 0 else if i = 15 then 256 else 128) ⟨1, 0, 0, .cut⟩ }) }
/-- The auto-follow timer is at its last frame period; the show-stop latch is given. -/
def following (stop : Bool) : State := show9.setShow { show9.showCtl with autoFollow := some 1, showStop := stop }
/-- Gate line 0 in a mode. -/
def gated (m : GateMode) (stop : Bool) : State := (show9.modGate 0 (fun g => { g with mode := m })).setShow
  { (show9.modGate 0 (fun g => { g with mode := m })).showCtl with showStop := stop }
/-- Amp group 0 of a zone with a claim that demands it, in a state. -/
def demanded (st : AmpState) : State := cl.modAmp 0 (fun a => { a with state := st })

theorem sized_keyed (p : Bool) (st : TalkState) : Sized (keyed p st) :=
  { sized_talk 1 with groups := (List.length_modify ..).trans (sized_talk 1).groups }
theorem sized_nine : Sized nine := { sized_w with groups := (List.length_modify ..).trans sized_w.groups }
theorem sized_following (b : Bool) : Sized (following b) := { sized_show9 with }
theorem sized_gated (m : GateMode) (b : Bool) : Sized (gated m b) :=
  { sized_show9 with gates := (List.length_modify ..).trans sized_show9.gates }
theorem sized_demanded (st : AmpState) : Sized (demanded st) :=
  { sized_cl with amps := (List.length_modify ..).trans sized_cl.amps }

/-! Settled states -/

/-- StateAgrees as a check that Lean can evaluate. -/
def agreesB (s : State) (c : Nat) (cl : Claim) : Bool :=
  let heads := (cl.targets.map Prod.fst).filter (fun z => headOf s z == some c)
  let stands := (cl.targets.map Prod.fst).filter (fun z => (s.claimList z).contains c)
  (match cl.state with
    | .queued => decide ¬ (if cl.all then stands ≠ [] ∧ stands = heads else heads ≠ [])
    | .suspended => decide (heads = [])
    | .waking => decide (∃ z ∈ heads, zoneReady s z = false)
    | .chiming => decide (heads ≠ [])
    | .live => decide (heads ≠ [])) &&
  decide ((cl.voice.isSome = true ↔ cl.state = .chiming) ∧ ∀ v ∈ cl.voice, v < 8 ∧ (s.voice v).holder = .claim c)

theorem agrees_of {s : State} {c : Nat} {cl : Claim} (h : agreesB s c cl = true) : StateAgrees s c cl := by
  unfold agreesB at h; unfold StateAgrees
  simp only [Bool.and_eq_true, decide_eq_true_eq] at h
  refine ⟨?_, h.2⟩
  revert h; cases cl.state <;> simp only [decide_eq_true_eq] <;> exact fun h => h.1

/-- The rule of Settled for voice v as a check that Lean can evaluate. -/
def voiceB (s : State) (v : Nat) : Bool :=
  match (s.voice v).holder with
  | .free => decide (s.voice v = voiceFree)
  | .claim c => decide (c < 48 ∧ (s.claim c).any (fun cl => cl.voice == some v) = true)
  | .signal k => (List.range 8).all (fun u => (s.voice u).holder != .signal k || u == v)

/-- Settled, each clause as a check that Lean can evaluate. -/
theorem settled_of {s : State}
    (h1 : ∀ c < 48, ∀ cl ∈ s.claim c, agreesB s c cl = true ∧ ∀ t ∈ cl.targets, t.2 =
      (if (s.claimList t.1).contains c = false then .out
      else if headOf s t.1 ≠ some c then .waiting
      else if cl.state = .live ∧ zoneReady s t.1 = true then .audible else .head) ∧
      (cl.priority < 7 → underAlarm s t.1 = true → t.2 = .out ∨ t.2 = .waiting))
    (h2 : ∀ v < 8, voiceB s v = true)
    (h3 : ∀ k ∈ [AlarmKind.crewAlert, .fire, .general], (∃ v < 8, (s.voice v).holder = .signal k) ↔
      (∃ z < 96, ∃ n ∈ s.zone z, n.applied = some k) ∨ (s.alarm.fallback = true ∧ highestKind s = some k))
    (h4 : ∀ g < 16, (s.amp g).demand = hasDemand s g)
    (h5 : ∀ z < 96, ∀ n ∈ s.zone z, refreshZone s z n = n)
    (h6 : ∀ w ∈ s.ambient.scan.window, ∀ t ∈ w.zones, t.2 = false → ∀ n ∈ s.zone t.1, n.mode = .normal)
    (h7 : ∀ i < 16, (s.fireZone (i + 1)).resolved = higher (higher (s.fireZone (i + 1)).beacon (s.fireZone (i + 1)).cell)
      (if s.alarm.contactLatch then some .general else none))
    (h8 : ∀ z < 96, ∀ n ∈ s.zone z, n.applied =
      (s.fireZone n.fireZone).resolved.bind (fun k => if (s.signal k).kinds.has n.kind then some k else none)) : Settled s where
  resolved f h1 hf := Nat.sub_add_cancel h1 ▸ h7 (f - 1) (by omega)
  applied := h8
  states c hc cl hcl := agrees_of (h1 c hc cl hcl).1
  grants c hc cl hcl t ht := ((h1 c hc cl hcl).2 t ht).1
  alarmed c hc cl hcl p t ht := ((h1 c hc cl hcl).2 t ht).2 p
  voices v hv := by
    have h := h2 v hv
    unfold voiceB at h
    revert h
    cases (s.voice v).holder with
    | free => exact fun h => of_decide_eq_true h
    | claim c => exact fun h => of_decide_eq_true h
    | signal k =>
      intro h u hu x
      simpa [x] using List.all_eq_true.mp h u (List.mem_range.mpr hu)
  signals k := h3 k (by cases k <;> simp)
  demands := h4
  layers := h5
  marks := h6

/-- Claim 0 of source 0, in a state that makes it heard, is the head of zone 0, which stands in VOICE. -/
def heard (c : Claim) : State :=
  let s := withZone 0 { zoneOf .cabin 0 with sensor := none, amp := none, mode := .voice, kpTarget := 516, kvTarget := 2062 } calm
  { s with claims := { table := s.claims.table.set 0 (some c), lists := s.claims.lists.set 0 [0] }
           talk := { s.talk with calling := s.talk.calling.set 0 1 } }
/-- Claim 0 is LIVE in zone 0, its time limit and its source watch at their last frame period. -/
def live : State := heard { claimOf .live 3 0 with targets := [(0, .audible)], limit := 10, watch := 47999 }
/-- The same claim with five of its priority WAITING behind it. -/
def six : State :=
  let back : Claim := { claimOf .queued 3 1 with targets := [(0, .waiting)], started := false, timer := none }
  live.setClaims { table := live.claims.table.take 1 ++ (List.range 5).map (fun i => some { back with rank := i + 1 }) ++ List.replicate 42 none,
                   lists := live.claims.lists.set 0 [0, 1, 2, 3, 4, 5] }
/-- Every voice is held by the chime of claim 0. -/
def held8 : State := live.setTone { live.tone with voices := List.replicate 8 { voiceFree with holder := .claim 0, cadence := some 0, phase := .on } }
/-- The report node 254 is reached over trunk 0, whose queue is given. -/
def reporting (n : Nat) (s : State) : State :=
  (s.modPort 0 (fun q => { q with egress := List.replicate n emptyCell })).setNode { s.node with report := some 254 }
/-- Claim 0 is CHIMING in zone 0 on voice 7, which is at the end of its last phase. -/
def chime : State := voice (.claim 0) 0 1 1 0 .off 0
  (heard { claimOf .chiming 3 0 with chime := some 0, voice := some 7, limit := 10, timer := none })

theorem sized_calm : Sized calm := by constructor <;> decide +kernel
theorem sized_live : Sized live := by constructor <;> decide +kernel
theorem sized_chime : Sized chime := by constructor <;> decide +kernel
theorem sized_six : Sized six := by constructor <;> decide +kernel
theorem sized_held8 : Sized held8 := by constructor <;> decide +kernel
theorem settled_reset : Settled State.reset := by apply settled_of <;> decide +kernel
theorem settled_calm : Settled calm := by apply settled_of <;> decide +kernel
theorem settled_live : Settled live := by apply settled_of <;> decide +kernel
theorem settled_six : Settled six := by apply settled_of <;> decide +kernel
theorem settled_following (b : Bool) : Settled (following b) := by cases b <;> apply settled_of <;> decide +kernel
theorem settled_gated (m : GateMode) : Settled (gated m true) := by cases m <;> apply settled_of <;> decide +kernel
theorem settled_chime : Settled chime := by apply settled_of <;> decide +kernel
theorem claims_of_tests : ClaimInv calm ∧ ClaimInv live ∧ ClaimInv six ∧ ClaimInv chime := by
  unfold ClaimInv ListRules; decide +kernel
theorem talk_of_tests : TalkInv calm ∧ TalkInv live := by
  unfold TalkInv GroupRules; constructor <;> refine ⟨?_, ?_, ?_⟩ <;> decide +kernel
theorem talk_of_six : TalkInv six := by unfold TalkInv GroupRules; refine ⟨?_, ?_, ?_⟩ <;> decide +kernel

/-! WellFormed: each check refuses a term that fails it alone -/

/-- Eight samples come from the converters, no fewer. -/
theorem test_wf_localExchange : (Instr.localExchange (List.replicate 8 0)).wellFormed = true ∧
    (Instr.localExchange (List.replicate 7 0)).wellFormed = false := by decide +kernel

theorem test_wf_ports_and_streams_accepted : (([.loadPort hd 1 1, .loadStreamMap hd 1 ⟨0, 1, 2⟩ ⟨0, 1, 2⟩, .loadStreamUnmap hd 1] :
    List Instr)).all Instr.wellFormed = true := by decide +kernel

theorem test_wf_ports_and_streams_refused_1 : (([.loadPort hdSrc 1 1, .loadPort hdTag 1 1, .loadPort hd 256 1, .loadPort hd 1 256,
     .loadStreamMap hdSrc 1 ⟨0, 1, 2⟩ ⟨0, 1, 2⟩, .loadStreamMap hdTag 1 ⟨0, 1, 2⟩ ⟨0, 1, 2⟩,
     .loadStreamMap hd 256 ⟨0, 1, 2⟩ ⟨0, 1, 2⟩, .loadStreamMap hd 1 ⟨256, 1, 2⟩ ⟨0, 1, 2⟩,
     .loadStreamMap hd 1 ⟨0, 256, 2⟩ ⟨0, 1, 2⟩, .loadStreamMap hd 1 ⟨0, 1, 256⟩ ⟨0, 1, 2⟩,
     .loadStreamMap hd 1 ⟨0, 1, 2⟩ ⟨256, 1, 2⟩, .loadStreamMap hd 1 ⟨0, 1, 2⟩ ⟨0, 256, 2⟩,
     .loadStreamMap hd 1 ⟨0, 1, 2⟩ ⟨0, 1, 256⟩, .loadStreamUnmap hdSrc 1, .loadStreamUnmap hdTag 1,
     .loadStreamUnmap hd 256] :
    List Instr)).any Instr.wellFormed = false := by decide +kernel

theorem test_wf_cells_accepted : (([.loadRoute hd 1 (some 1), .loadAuth hd 1 1, .setReport hd (some 1), .read hd 1 1 1, .clearCountsPort hd 1,
     .clearCountsBus hd 1, .clearCountsEvery hd, .resetNodeJobs hd, .resetNodeAll hd] :
    List Instr)).all Instr.wellFormed = true := by decide +kernel

theorem test_wf_cells_refused_1 : (([.loadRoute hdSrc 1 (some 1), .loadRoute hdTag 1 (some 1), .loadRoute hd 256 (some 1), .loadRoute hd 1 (some 255),
     .loadAuth hdSrc 1 1, .loadAuth hdTag 1 1, .loadAuth hd 256 1, .loadAuth hd 1 256, .setReport hdSrc (some 1),
     .setReport hdTag (some 1), .setReport hd (some 255), .read hdSrc 1 1 1, .read hdTag 1 1 1, .read hd 256 1 1,
     .read hd 1 256 1, .read hd 1 1 256, .clearCountsPort hdSrc 1, .clearCountsPort hdTag 1, .clearCountsPort hd 256,
     .clearCountsBus hdSrc 1, .clearCountsBus hdTag 1, .clearCountsBus hd 256, .clearCountsEvery hdSrc,
     .clearCountsEvery hdTag] :
    List Instr)).any Instr.wellFormed = false := by decide +kernel

theorem test_wf_cells_refused_2 : (([.resetNodeJobs hdSrc, .resetNodeJobs hdTag, .resetNodeAll hdSrc, .resetNodeAll hdTag] :
    List Instr)).any Instr.wellFormed = false := by decide +kernel

theorem test_wf_mix_accepted : (([.loadOutput hd 1 1 1 [⟨0, 1, 2⟩]] :
    List Instr)).all Instr.wellFormed = true := by decide +kernel

theorem test_wf_mix_refused_1 : (([.loadOutput hdSrc 1 1 1 [⟨0, 1, 2⟩], .loadOutput hdTag 1 1 1 [⟨0, 1, 2⟩], .loadOutput hd 256 1 1 [⟨0, 1, 2⟩],
     .loadOutput hd 1 256 1 [⟨0, 1, 2⟩], .loadOutput hd 1 1 65536 [⟨0, 1, 2⟩], .loadOutput hd 1 1 1 [⟨256, 1, 2⟩],
     .loadOutput hd 1 1 1 (List.replicate 256 ⟨0, 1, 2⟩)] :
    List Instr)).any Instr.wellFormed = false := by decide +kernel

theorem test_wf_zones_accepted : (([.loadZoneLoad hd 1 1 1 [1] (some 1) (some 1) (some 1) (some 1) (some 1) (some 1), .loadZoneUnload hd 1,
     .cabinLevel hd 1 1] :
    List Instr)).all Instr.wellFormed = true := by decide +kernel

theorem test_wf_zones_refused_1 : (([.loadZoneLoad hdSrc 1 1 1 [1] (some 1) (some 1) (some 1) (some 1) (some 1) (some 1),
     .loadZoneLoad hdTag 1 1 1 [1] (some 1) (some 1) (some 1) (some 1) (some 1) (some 1),
     .loadZoneLoad hd 256 1 1 [1] (some 1) (some 1) (some 1) (some 1) (some 1) (some 1),
     .loadZoneLoad hd 1 256 1 [1] (some 1) (some 1) (some 1) (some 1) (some 1) (some 1),
     .loadZoneLoad hd 1 1 256 [1] (some 1) (some 1) (some 1) (some 1) (some 1) (some 1),
     .loadZoneLoad hd 1 1 1 [256] (some 1) (some 1) (some 1) (some 1) (some 1) (some 1),
     .loadZoneLoad hd 1 1 1 (List.replicate 256 1) (some 1) (some 1) (some 1) (some 1) (some 1) (some 1),
     .loadZoneLoad hd 1 1 1 [1] (some 65535) (some 1) (some 1) (some 1) (some 1) (some 1),
     .loadZoneLoad hd 1 1 1 [1] (some 1) (some 255) (some 1) (some 1) (some 1) (some 1),
     .loadZoneLoad hd 1 1 1 [1] (some 1) (some 1) (some 65535) (some 1) (some 1) (some 1),
     .loadZoneLoad hd 1 1 1 [1] (some 1) (some 1) (some 1) (some 65535) (some 1) (some 1),
     .loadZoneLoad hd 1 1 1 [1] (some 1) (some 1) (some 1) (some 1) (some 255) (some 1),
     .loadZoneLoad hd 1 1 1 [1] (some 1) (some 1) (some 1) (some 1) (some 1) (some 255), .loadZoneUnload hdSrc 1,
     .loadZoneUnload hdTag 1, .loadZoneUnload hd 256, .cabinLevel hdSrc 1 1, .cabinLevel hdTag 1 1, .cabinLevel hd 256 1,
     .cabinLevel hd 1 256] :
    List Instr)).any Instr.wellFormed = false := by decide +kernel

theorem test_wf_claims_accepted : (([.pageOpen hd 1 1 (.kinds 1) 1 true 1 (some 1) 1, .pageClose hd 1] :
    List Instr)).all Instr.wellFormed = true := by decide +kernel

theorem test_wf_claims_refused_1 : (([.pageOpen hdSrc 1 1 (.kinds 1) 1 true 1 (some 1) 1, .pageOpen hdTag 1 1 (.kinds 1) 1 true 1 (some 1) 1,
     .pageOpen hd 256 1 (.kinds 1) 1 true 1 (some 1) 1, .pageOpen hd 1 256 (.kinds 1) 1 true 1 (some 1) 1,
     .pageOpen hd 1 1 (.kinds 256) 1 true 1 (some 1) 1, .pageOpen hd 1 1 (.kinds 1) 256 true 1 (some 1) 1,
     .pageOpen hd 1 1 (.kinds 1) 1 true 256 (some 1) 1, .pageOpen hd 1 1 (.kinds 1) 1 true 1 (some 255) 1,
     .pageOpen hd 1 1 (.kinds 1) 1 true 1 (some 1) 65536, .pageClose hdSrc 1, .pageClose hdTag 1, .pageClose hd 256] :
    List Instr)).any Instr.wellFormed = false := by decide +kernel

theorem test_wf_tones_accepted : (([.loadCadence hd 1 true 1 [⟨1, 1, 1, 1, 1, 1⟩]] :
    List Instr)).all Instr.wellFormed = true := by decide +kernel

theorem test_wf_tones_refused_1 : (([.loadCadence hdSrc 1 true 1 [⟨1, 1, 1, 1, 1, 1⟩], .loadCadence hdTag 1 true 1 [⟨1, 1, 1, 1, 1, 1⟩],
     .loadCadence hd 256 true 1 [⟨1, 1, 1, 1, 1, 1⟩], .loadCadence hd 1 true 256 [⟨1, 1, 1, 1, 1, 1⟩],
     .loadCadence hd 1 true 1 [⟨65536, 1, 1, 1, 1, 1⟩], .loadCadence hd 1 true 1 [⟨1, 256, 1, 1, 1, 1⟩],
     .loadCadence hd 1 true 1 [⟨1, 1, 65536, 1, 1, 1⟩], .loadCadence hd 1 true 1 [⟨1, 1, 1, 65536, 1, 1⟩],
     .loadCadence hd 1 true 1 [⟨1, 1, 1, 1, 65536, 1⟩], .loadCadence hd 1 true 1 [⟨1, 1, 1, 1, 1, 256⟩],
     .loadCadence hd 1 true 1 (List.replicate 256 ⟨1, 1, 1, 1, 1, 1⟩)] :
    List Instr)).any Instr.wellFormed = false := by decide +kernel

theorem test_wf_alarms_accepted : (([.loadSignal hd 1 1 1 1 1, .alarmSet hd 1#16 1, .alarmClearCell hd 1#16, .alarmClearContact hd] :
    List Instr)).all Instr.wellFormed = true := by decide +kernel

theorem test_wf_alarms_refused_1 : (([.loadSignal hdSrc 1 1 1 1 1, .loadSignal hdTag 1 1 1 1 1, .loadSignal hd 256 1 1 1 1, .loadSignal hd 1 256 1 1 1,
     .loadSignal hd 1 1 65536 1 1, .loadSignal hd 1 1 1 65536 1, .loadSignal hd 1 1 1 1 256, .alarmSet hdSrc 1#16 1,
     .alarmSet hdTag 1#16 1, .alarmSet hd 1#16 256, .alarmClearCell hdSrc 1#16, .alarmClearCell hdTag 1#16,
     .alarmClearContact hdSrc, .alarmClearContact hdTag] :
    List Instr)).any Instr.wellFormed = false := by decide +kernel

theorem test_wf_intercom_accepted : (([.loadGroup hd 1 true 1 [⟨1, 1, 1, 1, true, true, 1⟩], .talkKeyOn hd 1, .talkKeyOff hd 1] :
    List Instr)).all Instr.wellFormed = true := by decide +kernel

theorem test_wf_intercom_refused_1 : (([.loadGroup hdSrc 1 true 1 [⟨1, 1, 1, 1, true, true, 1⟩], .loadGroup hdTag 1 true 1 [⟨1, 1, 1, 1, true, true, 1⟩],
     .loadGroup hd 256 true 1 [⟨1, 1, 1, 1, true, true, 1⟩], .loadGroup hd 1 true 256 [⟨1, 1, 1, 1, true, true, 1⟩],
     .loadGroup hd 1 true 1 [⟨256, 1, 1, 1, true, true, 1⟩], .loadGroup hd 1 true 1 [⟨1, 256, 1, 1, true, true, 1⟩],
     .loadGroup hd 1 true 1 [⟨1, 1, 256, 1, true, true, 1⟩], .loadGroup hd 1 true 1 [⟨1, 1, 1, 65536, true, true, 1⟩],
     .loadGroup hd 1 true 1 [⟨1, 1, 1, 1, true, true, 65536⟩],
     .loadGroup hd 1 true 1 (List.replicate 256 ⟨1, 1, 1, 1, true, true, 1⟩), .talkKeyOn hdSrc 1, .talkKeyOn hdTag 1,
     .talkKeyOn hd 256, .talkKeyOff hdSrc 1, .talkKeyOff hdTag 1, .talkKeyOff hd 256] :
    List Instr)).any Instr.wellFormed = false := by decide +kernel

theorem test_wf_show_tables_accepted : (([.loadSceneScope hd 1 1#64, .loadSceneEntries hd 1 true [⟨1, 1, 1, 1⟩], .loadCueLoad hd 1 1 1 (some 1) (some 1),
     .loadCueUnload hd 1, .loadCueMark hd (some 1), .loadLineGate hd 3 1 1, .loadLineStatus hd 4 1 1 1] :
    List Instr)).all Instr.wellFormed = true := by decide +kernel

theorem test_wf_show_tables_refused_1 : (([.loadSceneScope hdSrc 1 1#64, .loadSceneScope hdTag 1 1#64, .loadSceneScope hd 256 1#64,
     .loadSceneEntries hdSrc 1 true [⟨1, 1, 1, 1⟩], .loadSceneEntries hdTag 1 true [⟨1, 1, 1, 1⟩],
     .loadSceneEntries hd 256 true [⟨1, 1, 1, 1⟩], .loadSceneEntries hd 1 true [⟨256, 1, 1, 1⟩],
     .loadSceneEntries hd 1 true [⟨1, 256, 1, 1⟩], .loadSceneEntries hd 1 true [⟨1, 1, 65536, 1⟩],
     .loadSceneEntries hd 1 true [⟨1, 1, 1, 256⟩], .loadSceneEntries hd 1 true (List.replicate 256 ⟨1, 1, 1, 1⟩),
     .loadCueLoad hdSrc 1 1 1 (some 1) (some 1), .loadCueLoad hdTag 1 1 1 (some 1) (some 1),
     .loadCueLoad hd 256 1 1 (some 1) (some 1), .loadCueLoad hd 1 256 1 (some 1) (some 1),
     .loadCueLoad hd 1 1 65536 (some 1) (some 1), .loadCueLoad hd 1 1 1 (some 65535) (some 1),
     .loadCueLoad hd 1 1 1 (some 1) (some 255), .loadCueUnload hdSrc 1, .loadCueUnload hdTag 1, .loadCueUnload hd 256,
     .loadCueMark hdSrc (some 1), .loadCueMark hdTag (some 1), .loadCueMark hd (some 255)] :
    List Instr)).any Instr.wellFormed = false := by decide +kernel

theorem test_wf_show_tables_refused_2 : (([.loadLineGate hdSrc 3 1 1, .loadLineGate hdTag 3 1 1, .loadLineGate hd 4 1 1, .loadLineGate hd 3 256 1,
     .loadLineGate hd 3 1 256, .loadLineStatus hdSrc 4 1 1 1, .loadLineStatus hdTag 4 1 1 1, .loadLineStatus hd 3 1 1 1,
     .loadLineStatus hd 8 1 1 1, .loadLineStatus hd 4 256 1 1, .loadLineStatus hd 4 1 256 1, .loadLineStatus hd 4 1 1 256] :
    List Instr)).any Instr.wellFormed = false := by decide +kernel

theorem test_wf_show_actions_accepted : (([.go hd, .goto hd 1, .applyScene hd 1 1, .showClearShowStop hd, .showClearCueMark hd, .showClearLines hd] :
    List Instr)).all Instr.wellFormed = true := by decide +kernel

theorem test_wf_show_actions_refused_1 : (([.go hdSrc, .go hdTag, .goto hdSrc 1, .goto hdTag 1, .goto hd 256, .applyScene hdSrc 1 1, .applyScene hdTag 1 1,
     .applyScene hd 256 1, .applyScene hd 1 65536, .showClearShowStop hdSrc, .showClearShowStop hdTag,
     .showClearCueMark hdSrc, .showClearCueMark hdTag, .showClearLines hdSrc, .showClearLines hdTag] :
    List Instr)).any Instr.wellFormed = false := by decide +kernel

theorem test_wf_meter_accepted : (([.loadSensorLoad hd 1 1 (-32768) 1 1 1 (some 1), .loadSensorUnload hd 1, .loadCurve hd 1 true [(1, 1)],
     .scanStart hd 1 1 1, .scanStop hd] :
    List Instr)).all Instr.wellFormed = true := by decide +kernel

theorem test_wf_meter_refused_1 : (([.loadSensorLoad hdSrc 1 1 (-32768) 1 1 1 (some 1), .loadSensorLoad hdTag 1 1 (-32768) 1 1 1 (some 1),
     .loadSensorLoad hd 256 1 (-32768) 1 1 1 (some 1), .loadSensorLoad hd 1 256 (-32768) 1 1 1 (some 1),
     .loadSensorLoad hd 1 1 (-32769) 1 1 1 (some 1), .loadSensorLoad hd 1 1 32768 1 1 1 (some 1),
     .loadSensorLoad hd 1 1 (-32768) 16777216 1 1 (some 1), .loadSensorLoad hd 1 1 (-32768) 1 16777216 1 (some 1),
     .loadSensorLoad hd 1 1 (-32768) 1 1 256 (some 1), .loadSensorLoad hd 1 1 (-32768) 1 1 1 (some 65535),
     .loadSensorUnload hdSrc 1, .loadSensorUnload hdTag 1, .loadSensorUnload hd 256, .loadCurve hdSrc 1 true [(1, 1)],
     .loadCurve hdTag 1 true [(1, 1)], .loadCurve hd 256 true [(1, 1)], .loadCurve hd 1 true [(16777216, 1)],
     .loadCurve hd 1 true [(1, 65536)], .loadCurve hd 1 true (List.replicate 256 (1, 1)), .scanStart hdSrc 1 1 1,
     .scanStart hdTag 1 1 1, .scanStart hd 256 1 1, .scanStart hd 1 256 1, .scanStart hd 1 1 256] :
    List Instr)).any Instr.wellFormed = false := by decide +kernel

theorem test_wf_meter_refused_2 : (([.scanStop hdSrc, .scanStop hdTag] :
    List Instr)).any Instr.wellFormed = false := by decide +kernel

theorem test_wf_amps_accepted : (([.loadAmp hd 1 1 1 1 1 1 1 1 1, .ampPolicy hd 1, .faultClear hd 1] :
    List Instr)).all Instr.wellFormed = true := by decide +kernel

theorem test_wf_amps_refused_1 : (([.loadAmp hdSrc 1 1 1 1 1 1 1 1 1, .loadAmp hdTag 1 1 1 1 1 1 1 1 1, .loadAmp hd 256 1 1 1 1 1 1 1 1,
     .loadAmp hd 1 256 1 1 1 1 1 1 1, .loadAmp hd 1 1 65536 1 1 1 1 1 1, .loadAmp hd 1 1 1 65536 1 1 1 1 1,
     .loadAmp hd 1 1 1 1 65536 1 1 1 1, .loadAmp hd 1 1 1 1 1 65536 1 1 1, .loadAmp hd 1 1 1 1 1 1 65536 1 1,
     .loadAmp hd 1 1 1 1 1 1 1 256 1, .loadAmp hd 1 1 1 1 1 1 1 1 65536, .ampPolicy hdSrc 1, .ampPolicy hdTag 1,
     .ampPolicy hd 256, .faultClear hdSrc 1, .faultClear hdTag 1, .faultClear hd 256] :
    List Instr)).any Instr.wellFormed = false := by decide +kernel

/-- FIRE sounds in fire zone 1, on voice 0. -/
def sounding : State := after (.alarmSet hd 1 2) calm
theorem sized_sounding : Sized sounding := by constructor <;> decide +kernel
theorem settled_sounding : Settled sounding := by apply settled_of <;> decide +kernel
/-- Claim 0, WAKING, heads zone 0 of amp group 0, which is WAKING with its wake limit at its last frame period. -/
def waking : State :=
  let s := withZone 0 { zoneOf .cabin 0 with sensor := none, kpTarget := 2062 } calm
  { s with claims := { table := s.claims.table.set 0 (some { claimOf .waking 3 0 with started := false, timer := none }),
                       lists := s.claims.lists.set 0 [0] }
           power := { s.power with groups := s.power.groups.modify 0 (fun a =>
             { a with state := .waking, wakeTimer := some 1, demand := true, windowTimer := none }) } }
/-- Trunk 0 of `live` gave GENERAL in fire zone 1 with its last word and has one frame period to its loss length. -/
def losing : State :=
  ((takeAlarmWord 0 { mask := 1, kind := some .general } live).modPort 0 (fun q => { q with loss := some 63, egress := [] })).setNode
    { live.node with report := some 254 }
/-- Zone 1, the THEATRE zone, is UNLOADED, and every fire zone's resolved kind is FIRE. -/
def alight : State := (calm.setZones (calm.zones.set 1 none)).setAlarm
  { calm.alarm with fire := calm.alarm.fire.map (fun f => { f with cell := some .fire, resolved := some .fire }) }
theorem sized_alight : Sized alight :=
  { sized_calm with zones := List.length_set.trans sized_calm.zones, fire := (List.length_map ..).trans sized_calm.fire }
theorem sized_waking : Sized waking := by constructor <;> decide +kernel
theorem sized_losing : Sized losing := by constructor <;> decide +kernel
theorem settled_waking : Settled waking := by apply settled_of <;> decide +kernel
theorem settled_losing : Settled losing := by apply settled_of <;> decide +kernel
theorem claims_of_alarms : ClaimInv sounding ∧ ClaimInv waking ∧ ClaimInv losing := by unfold ClaimInv ListRules; decide +kernel
theorem talk_of_alarms : TalkInv sounding ∧ TalkInv waking ∧ TalkInv losing := by
  unfold TalkInv GroupRules; refine ⟨?_, ?_, ?_⟩ <;> decide +kernel
/-- Amp group 0, which no zone names, as a change leaves it. -/
def spare (f : Amp → Amp) : State := calm.modAmp 0 f
theorem sized_spare (f : Amp → Amp) : Sized (spare f) := { sized_calm with amps := (List.length_modify ..).trans sized_calm.amps }

/-! A state and operands for every statement with hypotheses, clause by clause -/

theorem witness_StepTakesTheFrontCommand : (u.setPending [.mixPeriod, .resetInputLow]).pending = .mixPeriod :: [.resetInputLow] := rfl

/-- The loss timer of port 0 has one period to go to the loss length of 64, that of port 1 two. -/
theorem witness_EmptyQueueStepIsOneFramePeriod : low.pending = [] ∧ low.pins.resetLow = true ∧
    (let s := u.modPort 0 (fun q => { q with loss := some 63 }) |>.modPort 1 (fun q => { q with loss := some 62 })
     s.pending = [] ∧ s.pins.resetLow = false ∧ (s.port 0).loss = some 63 ∧ ¬ 63 + 1 < 16 * ((s.port 0).lt + 1) ∧
      (s.port 1).loss = some 62 ∧ 62 + 1 < 16 * ((s.port 1).lt + 1) ∧ 1 < s.ports.length) := by decide +kernel

/-- Each count one frame period before the one that would end it: loss, contact and gate debounce, claim, talk, auto-follow and wake
timers, the demotion window, the scan window; the claim's source is absent. -/
theorem witness_EmptyQueueStepIsOneFramePeriod_quiet :
    (let s : State := { heard { claimOf .live 3 0 with timer := some 2, watch := 47998 } with
        ports := u.ports.map (fun q => { q with loss := q.loss.map (fun _ => 62) })
        pins := { u.pins with contactIn := true }
        alarm := { u.alarm with contactCount := 958 }
        talk := { (talk 1).talk with groups := (talk 1).talk.groups.map (fun g => { g with members := g.members.map (fun m => { m with timer := some 2 }) }) }
        showCtl := { u.showCtl with autoFollow := some 2
                                    gates := u.showCtl.gates.map (fun g => { g with setting := 50, input := true, count := 2398 }) }
        power := { u.power with groups := u.power.groups.map (fun a => { a with state := .waking, wakeTimer := some 2, windowTimer := some 2879998 }) }
        ambient := { u.ambient with scan := { u.ambient.scan with window := some { fresh := true, elapsed := 4799, sum := 0, input := 0, offset := 0, zones := [] } } } }
     s.pending = [] ∧ s.pins.resetLow = false ∧ (∀ q ∈ s.ports, ∀ n ∈ q.loss, n + 1 < 16 * (q.lt + 1)) ∧
      (s.pins.contactIn = s.alarm.contactClosed ∨ s.alarm.contactCount + 1 < 960) ∧
      (∀ g ∈ s.showCtl.gates, g.input = g.level ∨ g.count + 1 < g.setting * 48) ∧
      (s.showCtl.hold = true ∨ ∀ n ∈ s.showCtl.autoFollow, 2 ≤ n) ∧
      (∀ x ∈ s.tone.voices, x.holder = .free ∨ x.phase = .ended ∨ x.timer ≠ 0) ∧
      (∀ o ∈ s.claims.table, ∀ cl ∈ o,
        (∀ n ∈ cl.timer, 2 ≤ n) ∧ (streamAvailable s cl.source = true ∨ cl.watch + 1 < 48000)) ∧
      (∀ g ∈ s.talk.groups, ∀ m ∈ g.members, ∀ n ∈ m.timer, 2 ≤ n) ∧
      (∀ a ∈ s.power.groups, (∀ n ∈ a.wakeTimer, 2 ≤ n) ∧ (∀ n ∈ a.windowTimer, n + 1 < a.window * 48000) ∧ idleDepth a.state = none) ∧
      ∀ w ∈ s.ambient.scan.window, w.elapsed < 4800) := by decide +kernel

theorem witness_ResetsGiveTheResetValues : Admitted hd .config u ∧ Admitted { hd with bcast := true } .config u ∧
    low.pins.resetLow = true ∧ (∀ b, Instr.mixPeriod ≠ .hardwareReset b) ∧ Instr.mixPeriod ≠ .resetInputLow ∧
    (∀ g b, Instr.mixPeriod ≠ .ampReadyChange g b) ∧ (∀ g b, Instr.mixPeriod ≠ .ampFaultInputChange g b) :=
  ⟨admitted rfl rfl, admitted rfl rfl, rfl, nofun, nofun, nofun, nofun⟩

/-- A LOAD-OUTPUT with seven destinations has a payload of 27 bytes; node 9 holds class BRIDGE alone. -/
theorem witness_FormatAndAuthorityAreCheckedFirst :
    (let i := Instr.loadOutput hd 0 0 0 (List.replicate 8 ⟨0, 0, 0⟩)
     requestHeader i = some hd ∧ (∃ k p, encodeRequest i = some (k, p) ∧ 26 < p.length) ∧ requestClass i = some .config) ∧
    (let i := Instr.loadPort hd 0 15
     requestHeader i = some hd ∧ (∃ k p, encodeRequest i = some (k, p) ∧ p.length ≤ 26) ∧ requestClass i = some .config ∧
      holdsClass auth16 9 .config = false) ∧ auth16.pins.resetLow = false :=
  ⟨⟨rfl, ⟨_, _, rfl, by decide +kernel⟩, rfl⟩, ⟨rfl, ⟨_, _, rfl, by decide +kernel⟩, rfl, by decide +kernel⟩, by decide +kernel⟩

theorem witness_QueueTakesEightCellsAndCountsTheRest :
    (let s := u.modPort 5 (fun q => { q with egress := List.replicate 7 emptyCell }) |>.modPort 0
        (fun q => { q with egress := List.replicate 8 emptyCell, drops := 65535 })
     5 < s.ports.length ∧ (s.port 5).egress.length < 8 ∧ 8 ≤ (s.port 0).egress.length ∧ (s.port 0).drops = 65535) := by
  decide +kernel

theorem witness_RequestReadsBackFromItsPayload :
    (let i := Instr.loadAmp hd 255 0 65535 65535 65535 65535 65535 255 65535
     i.wellFormed = true ∧ requestHeader i = some hd ∧ ∃ k p, encodeRequest i = some (k, p)) ∧
    (let i := Instr.loadRoute hd 0 none
     i.wellFormed = true ∧ requestHeader i = some hd ∧ ∃ k p, encodeRequest i = some (k, p)) :=
  ⟨⟨by decide +kernel, rfl, _, _, rfl⟩, by decide +kernel, rfl, _, _, rfl⟩

/-- Payloads one byte too short or too long: of LOAD-PORT, LOAD-OUTPUT, RESET-NODE (also with a scope of no value) and LOAD-LINE. -/
def malformed : List (Byte × List Byte) := [(1, [0]), (9, [0, 0, 0, 0, 1, 0, 0]), (8, [2, 0]), (22, [3, 0, 0, 0]), (32, [])]
/-- A form, a line, a scope, an item and an action of no value, each of the first number above its range. -/
def unknown : List (Byte × List Byte) := [(12, [7, 0, 2]), (22, [8]), (8, [2]), (26, [3]), (19, [0, 2]), (10, [0, 2, 9, 9])]
/-- The last port; a flag set by 255; a local location with a third byte; a status line; RESET-NODE with scope ALL. -/
def wellMade : List (Byte × List Byte) :=
  [(1, [5, 255]), (14, [31, 255, 1, 0]), (2, [127, 0, 1, 7, 255, 2, 9, 9]), (22, [7, 9, 2, 7]), (8, [1])]

theorem witness_RequestReadsBackFromItsPayload_any : hd.wellFormed = true ∧
    (∀ x ∈ malformed, 1 ≤ x.1.toNat ∧ x.1.toNat ≤ 32 ∧ FormatFails x.1.toNat x.2) ∧
    (∀ x ∈ unknown, 1 ≤ x.1.toNat ∧ x.1.toNat ≤ 32 ∧ ¬ FormatFails x.1.toNat x.2 ∧ choiceUnknown x.1.toNat x.2 = true) ∧
    (∀ x ∈ wellMade, 1 ≤ x.1.toNat ∧ x.1.toNat ≤ 32 ∧ ¬ FormatFails x.1.toNat x.2 ∧ choiceUnknown x.1.toNat x.2 = false) ∧
    flagsAsOne 14 [31, 255, 1, 0] = [31, 1, 1, 0] := by
  unfold FormatFails; decide +kernel

/-- A cell of a kind with a payload. -/
def cellOf (dst : Byte) (x : Byte × List Byte) : Cell :=
  { emptyCell with dst := dst, src := 9, kind := x.1, len := byteOf x.2.length, payload := x.2 ++ List.replicate (26 - x.2.length) 255 }

/-- Spur 2 and trunk 0 UP, and trunk 1 raised by its eighth good frame: the empty cell, a REPLY for this part, a kind and a payload length
that the part does not know; and cells of known kinds for this part and broadcast, ill formed, with a choice of no value, and of requests,
RESET-NODE ALL among them. -/
theorem witness_FrameRunsTheRequestItCarries :
    (u.pins.resetLow = false ∧ (u.port 2).state = .up ∧ (u.port 0).state = .up ∧ u.node.id ≤ 254 ∧
      (seeking 1 7 u).pins.resetLow = false ∧ ((seeking 1 7 u).port 1).state = .seeking ∧ 7 ≤ ((seeking 1 7 u).port 1).good) ∧
    (∀ c ∈ [emptyCell, { emptyCell with dst := 0, kind := 128 }, { emptyCell with dst := 0, kind := 131 },
        { emptyCell with dst := 0, kind := 33 }, { emptyCell with dst := 0, kind := 1, len := 27 }],
      frameGood (frame c) = true ∧ frameCell (frame c) = c ∧ c.dst.toNat = u.node.id) ∧
    (∀ d ∈ [0, 255], ∀ x ∈ malformed ++ unknown ++ wellMade, let c := frameCell (frame (cellOf d x))
      frameGood (frame (cellOf d x)) = true ∧ (c.dst.toNat = u.node.id ∨ c.dst = 255) ∧ c.kind = x.1 ∧ c.len.toNat ≤ 26 ∧
        c.payload.take c.len.toNat = x.2) ∧
    holdsClass u 9 .config = true ∧ holdsClass auth16 9 .config = false := by
  refine ⟨by decide +kernel, fun c h => ⟨frame_good c, ?_⟩, fun d hd x h => ⟨frame_good _, ?_⟩, by decide +kernel⟩
  · revert c; decide +kernel
  · revert x d; decide +kernel

theorem witness_ComposedFrameIsReadBack : 255 < 256 ∧ 3 ≤ 3 ∧ (List.replicate 24 (-8388608 : Sample)).length = 24 ∧
    (∀ x ∈ List.replicate 24 (-8388608 : Sample), -8388608 ≤ x ∧ x ≤ 8388607) ∧ emptyCell.payload.length = 26 := by decide +kernel

theorem witness_FramesBelowUpStepThePort : u.pins.resetLow = false ∧ frameGood [] = false ∧ frameGood (frame emptyCell) = true ∧
    (State.reset.port 4).state = .down ∧ (((seeking 4 6 u).port 4).state = .seeking ∧ ((seeking 4 6 u).port 4).good < 7) :=
  ⟨by decide +kernel, by decide +kernel, frame_good _, by decide +kernel⟩

theorem witness_GoodFrameIsHandedOn : Sized u ∧ Sized (seeking 1 7 u) ∧ u.pins.resetLow = false ∧ frameGood (frame emptyCell) = true ∧
    (frameCell (frame emptyCell)).kind = 0 ∧ (u.port 5).state ≠ .up ∧ (u.port 2).state = .up ∧ (u.port 0).state = .up ∧
    ((seeking 1 7 u).port 1).state = .seeking ∧ 7 ≤ ((seeking 1 7 u).port 1).good :=
  ⟨sized_u, by constructor <;> decide +kernel, by decide +kernel, frame_good _, by decide +kernel⟩

/-- What stands before the cell of the frame that raises trunk 1 is reported, and a trunk's word is taken, also on the trunk that is not
UP. -/
theorem witness_GoodFrameIsHandedOn_parts :
    (let s := reporting 7 (seeking 1 7 u)
     Sized s ∧ 1 < 2 ∧ (s.port 1).state ≠ .up ∧ s.node.report = some 254 ∧ (s.port 0).egress.length < 8 ∧
      leadsTo (beforeCell 1 (frame emptyCell) s) 254 = some 0) ∧ Sized u ∧ (u.port 0).state = .up :=
  ⟨⟨by constructor <;> decide +kernel, by decide +kernel⟩, sized_u, by decide +kernel⟩

/-- The eighth good frame raises trunk 1 while trunk 0, with seven cells waiting, leads to the report node. -/
theorem witness_GoodFrameIsHandedOn_notice :
    (let s := reporting 7 (seeking 1 7 u)
     Sized s ∧ (s.port 1).state ≠ .up ∧ s.node.report = some 254 ∧ 254 ≠ s.node.id ∧ 254 ≤ 254 ∧ (s.port 0).egress.length < 8 ∧
      leadsTo (after (.frameArrival 1 (frame emptyCell)) s) 254 = some 0) := by
  refine ⟨by constructor <;> decide +kernel, by decide +kernel, by decide +kernel, by decide +kernel, by decide +kernel,
    by decide +kernel, ?_⟩
  have h : frameGood (frame emptyCell) = true := frame_good _
  simp only [after, exec, execFrameArrival, runFrameArrival, h]
  decide +kernel

/-- The word of these frames brings fire zone 1 GENERAL, which begins a THEATRE zone's alarm: on trunk 0 of a settled state with a claim,
and on trunk 1 as it rises, with room for the notices of the raise and of the fire zone. -/
theorem witness_GoodFrameIsHandedOn_word :
    (Sized live ∧ Settled live ∧ ClaimInv live ∧ TalkInv live ∧ frameAlarm (frame emptyCell) = { mask := 1, kind := some .general }) ∧
    (let s := reporting 6 (seeking 1 7 calm)
     let t := after (.frameArrival 1 (frame emptyCell)) s
     Sized s ∧ s.pins.resetLow = false ∧ s.node.report = some 254 ∧ 254 ≠ s.node.id ∧ leadsTo t 254 = some 0 ∧
      ((List.range 16).map (· + 1)).filter (fun f => (t.fireZone f).resolved != (s.fireZone f).resolved) = [1] ∧
      (s.port 0).egress.length + 2 ≤ 8 ∧ (s.zone 1).any (fun n => n.kind == .theatre && n.applied == none) = true ∧
      (t.zone 1).any (fun n => n.applied == some .general) = true) := by
  refine ⟨⟨sized_live, settled_live, claims_of_tests.2.1, talk_of_tests.2, by decide +kernel⟩, by constructor <;> decide +kernel, ?_⟩
  have h : frameGood (frame emptyCell) = true := frame_good _
  simp only [after, exec, execFrameArrival, runFrameArrival, h]
  decide +kernel

/-- A settled state whose trunk 0 gave GENERAL is lost to its loss timer, and to a LOAD-PORT; trunk 1 then leads to the report node and
has room for the notices of the loss and of the fire zone. -/
theorem witness_LossTimerExpiryTakesThePortDown_alarm : Sized losing ∧ Settled losing ∧ ClaimInv losing ∧ TalkInv losing ∧
    Admitted hd .config losing ∧ (losing.port 0).state = .up ∧ (losing.port 0).loss = some 63 ∧
    16 * ((losing.port 0).lt + 1) ≤ 63 + 1 ∧ 16 * (min 15 2 + 1) ≤ 63 ∧ losing.node.report = some 254 ∧ 254 ≠ losing.node.id ∧
    ∀ c ∈ [Instr.lossTimerExpiry 0, .loadPort { hd with bcast := true } 0 2], leadsTo (after c losing) 254 = some 1 ∧
      (losing.port 1).egress.length + 2 ≤ 8 ∧ ((List.range 16).map (· + 1)).filter
        (fun f => ((after c losing).fireZone f).resolved != (losing.fireZone f).resolved) = [1] :=
  ⟨sized_losing, settled_losing, claims_of_alarms.2.2, talk_of_alarms.2.2, ⟨by decide +kernel, by decide +kernel⟩, by decide +kernel⟩

/-- Trunk 0 UP and port 5 SEEKING, each at 63 of the 64 frame periods of its loss length. -/
theorem witness_LossTimerExpiryTakesThePortDown :
    (let s := u.modPort 0 (fun q => { q with loss := some 63 })
     Sized s ∧ s.pins.resetLow = false ∧ (s.port 0).loss = some 63 ∧ 16 * ((s.port 0).lt + 1) ≤ 63 + 1 ∧ (s.port 0).state = .up) ∧
    (let s := (seeking 5 7 u).modPort 5 (fun q => { q with loss := some 63 })
     Sized s ∧ s.pins.resetLow = false ∧ (s.port 5).loss = some 63 ∧ 16 * ((s.port 5).lt + 1) ≤ 63 + 1 ∧ (s.port 5).state ≠ .up) ∧
    (let s := reporting 7 (u.modPort 2 (fun q => { q with loss := some 63 }))
     Sized s ∧ (s.port 2).loss = some 63 ∧ (s.port 2).state = .up ∧ s.node.report = some 254 ∧ 254 ≠ s.node.id ∧
      (s.port 0).egress.length < 8 ∧ leadsTo (after (.lossTimerExpiry 2) s) 254 = some 0) :=
  ⟨⟨by constructor <;> decide +kernel, by decide +kernel⟩, ⟨by constructor <;> decide +kernel, by decide +kernel⟩,
   by constructor <;> decide +kernel, by decide +kernel⟩

/-- Bus 1 alone names slot 23 of port 2, and none names slot 0. -/
theorem witness_DepartureSendsOneFrame : Sized w ∧ w.pins.resetLow = false ∧
    (let s := withBus 1 (fun b => { b with dests := [.slot 2 23] }) w
     Sized s ∧ (∀ b < 64, Dest.slot 2 0 ∉ (s.bus b).dests) ∧ Dest.slot 2 23 ∈ (s.bus 1).dests ∧
      ∀ c < 64, Dest.slot 2 23 ∈ (s.bus c).dests → c = 1) :=
  ⟨sized_w, by decide +kernel, by constructor <;> decide +kernel, by decide +kernel⟩

/-- Bus 63 alone names local output 7, and none names 0; the fallback flag is clear, and in the reset state set. -/
theorem witness_LocalExchangeTakesAndSendsEightSamples : (List.replicate 8 (0x800000#24)).length = 8 ∧
    (let s := (withBus 63 (fun b => { b with dests := [.localOut 7] }) w).setAlarm { w.alarm with fallback := false }
     Sized s ∧ s.pins.resetLow = false ∧ s.alarm.fallback = false ∧ (∀ b < 64, Dest.localOut 0 ∉ (s.bus b).dests) ∧
      Dest.localOut 7 ∈ (s.bus 63).dests ∧ ∀ c < 64, Dest.localOut 7 ∈ (s.bus c).dests → c = 63) ∧
    Sized w ∧ w.alarm.fallback = true :=
  ⟨rfl, ⟨by constructor <;> decide +kernel, by decide +kernel⟩, sized_w, by decide +kernel⟩

/-- Port 6 is out of range; 15 frame periods do not reach the loss length of setting 0, and 16 do; on a SEEKING port, and on an UP spur and
an UP trunk with the report node reached over trunk 0 after it. -/
theorem witness_PortAndStreamLoadsWriteTheirEntries : Sized u ∧ Admitted hd .config u ∧ 5 < 6 ∧
    (let s := u.modPort 5 (fun q => { q with state := .up, loss := some 15 }) |>.modPort 0 (fun q => { q with loss := some 16 })
     Sized s ∧ Admitted hd .config s ∧ ¬ 5 < 5 ∧ (∀ n ∈ (s.port 5).loss, n < 16 * (min 15 0 + 1)) ∧
      (s.port 0).loss = some 16 ∧ ∀ n ∈ (s.port 0).loss, 16 * (min 15 0 + 1) ≤ n) ∧
    (let s := (seeking 4 7 u).modPort 4 (fun q => { q with loss := some 16 })
     Sized s ∧ (s.port 4).state ≠ .up ∧ (s.port 4).loss = some 16) ∧
    ∀ p ∈ [2, 1], let s := reporting 7 (u.modPort p (fun q => { q with loss := some 16 }))
      Sized s ∧ Admitted hd .config s ∧ (s.port p).state = .up ∧ (s.port p).loss = some 16 ∧ s.node.report = some 254 ∧
        254 ≠ s.node.id ∧ (s.port 0).egress.length < 8 ∧ leadsTo (after (.loadPort hd p 0) s) 254 = some 0 :=
  ⟨sized_u, admitted rfl rfl, by decide, ⟨by constructor <;> decide +kernel, admitted rfl rfl, by decide +kernel⟩,
   ⟨by constructor <;> decide +kernel, by decide +kernel⟩, fun p h =>
   ⟨{ sized_u with ports := (List.length_modify ..).trans ((List.length_modify ..).trans sized_u.ports) }, admitted rfl rfl, by revert p; decide +kernel⟩⟩

/-- On a spur, on a trunk, and on the trunk that the frame raises: a cell for node 254, and broadcasts of an unknown kind, of a REPLY, and of
a request with a payload length of 27. -/
theorem witness_CellsForOthersGoOn :
    (u.pins.resetLow = false ∧ (u.port 2).state = .up ∧ (u.port 0).state = .up ∧ u.node.id ≠ 255 ∧
      (seeking 1 7 u).pins.resetLow = false ∧ ((seeking 1 7 u).port 1).state = .seeking ∧ 7 ≤ ((seeking 1 7 u).port 1).good ∧
      (seeking 1 7 u).node.id = u.node.id) ∧
    (let b := frame { emptyCell with dst := 254, kind := 1 }
     frameGood b = true ∧ (frameCell b).kind ≠ 0 ∧ (frameCell b).dst.toNat ≠ u.node.id ∧ (frameCell b).dst ≠ 255) ∧
    ∀ c ∈ [{ emptyCell with dst := 255, kind := 33 }, { emptyCell with dst := 255, kind := 128 },
        { emptyCell with dst := 255, kind := 32, len := 27 }],
      frameGood (frame c) = true ∧ frameCell (frame c) = c ∧ c.kind ≠ 0 ∧ c.dst = 255 ∧ (32 < c.kind.toNat ∨ 26 < c.len.toNat) :=
  ⟨by decide +kernel, ⟨frame_good _, by decide +kernel⟩, fun c h => ⟨frame_good c, by revert c; decide +kernel⟩⟩

/-- In a table of sixteen entries identity 15 is held and 254 is not. -/
theorem witness_NodeTablesAreWrittenAndObeyed : Admitted hd .config u ∧ Admitted hd .bridge u ∧ Admitted hd .bridge auth16 ∧
    u.node.auth = [] ∧ (auth16.node.auth ≠ [] ∧ ∀ e ∈ auth16.node.auth, e.id ≠ 254) ∧
    ((auth16.node.auth.map (·.id)).Nodup ∧ (⟨15, false, true, false⟩ : AuthEntry) ∈ auth16.node.auth) ∧ 254 < 255 ∧ 7 < 8 ∧
    (254 ≤ 254 ∧ 7 ≤ 7 ∧ auth16.node.auth.any (fun e => e.id == 254) = false ∧ 7 ≠ 0 ∧ 16 ≤ auth16.node.auth.length) ∧
    auth16.node.auth.any (fun e => e.id == 15) = true ∧ u.node.auth.length < 16 :=
  ⟨admitted rfl rfl, admitted rfl rfl, ⟨rfl, by decide +kernel⟩, rfl, by decide +kernel, by decide +kernel, by decide, by decide,
   by decide +kernel, by decide +kernel, by decide +kernel⟩

/-- Entry 0 of the authority table has segment 0 and no segment 255; the table has no entry 255. Zone 0 is LOADED, its record in more than
one segment, zone 95 is not, and claim 0 is in use; every table has its last index. -/
theorem witness_ReadReturnsTheRecordInSegments : (Admitted hd .config u ∧
    ∃ fields portion, readRecord u 1 0 = some fields ∧ (segments fields)[0]? = some portion ∧
      (segments fields).length ≤ 255 ∧ readRecord u 1 255 = none) ∧
    (live.zone 95 = none ∧ live.claim 47 = none ∧ (live.zone 0).isSome = true ∧ (live.claim 0).isSome = true ∧
      (readRecord live 7 0).any (fun f => decide (2 ≤ (segments f).length)) = true) ∧
    ∀ x ∈ [0, 15, 254, 5, 127, 63, 63, 95, 47, 7, 31, 16, 2, 7, 15, 63, 0, 7, 7, 7, 0, 15].zipIdx,
      (readRecord live x.2 x.1).isSome = true ∧ readRecord live x.2 (x.1 + 1) = none :=
  ⟨⟨admitted rfl rfl, _, _, rfl, rfl, by decide +kernel, by decide +kernel⟩, by decide +kernel, by decide +kernel⟩

theorem witness_ClearCountsSetsCountersToZero : Admitted hd .config u := admitted rfl rfl

/-- Bus 0 holds a RETIRING entry in RAMP with nothing pending, and claim 0 stands in zone 0; a suspended member, a talker and a chiming claim
are all told over trunk 0, whose queue has room; in settled states a signal and a chime hold voices. -/
theorem witness_ResetNodeJobsEndsWhatRuns :
    (let s := withBus 0 (fun b => { b with live := [{ entryOf 1 5 9 .ramp with retiring := true }] }) cl
     Sized s ∧ Admitted hd .config s ∧ ClaimInv s ∧ (s.bus 0).role = .zone ∧
      ∀ x ∈ (s.bus 0).live, x.mode = .ramp → x.pending = none) ∧
    (let s := (keyed true .suspended).setClaims { chiming.claims with table := chiming.claims.table.map (Option.map (fun c => { c with originPort := 0 })) }
     Sized s ∧ Admitted hd .config s ∧ (s.group 0).members.map (fun m => (m.station, m.state)) = [(9, .suspended), (11, .talking)] ∧
      leadsTo s 9 = some 0 ∧ leadsTo s 11 = some 0 ∧ (s.claim 0).map (fun c => (c.originPort, c.state)) = some (0, .chiming) ∧
      (∀ c < 48, c ≠ 0 → s.claim c = none) ∧ (s.port 0).egress.length + 2 + 1 ≤ 8) ∧
    (Sized sounding ∧ Settled sounding ∧ Admitted hd .config sounding ∧ (sounding.voice 0).holder = .signal .fire ∧
      (sounding.voice 7).holder = .free) ∧
    (Sized chime ∧ Settled chime ∧ Admitted hd .config chime ∧ (chime.voice 7).holder = .claim 0) :=
  ⟨⟨by constructor <;> decide +kernel, admitted rfl rfl, by unfold ClaimInv ListRules; decide +kernel, by decide +kernel,
    by decide +kernel⟩, ⟨by constructor <;> decide +kernel, admitted rfl rfl, by decide +kernel⟩,
   ⟨sized_sounding, settled_sounding, ⟨by decide +kernel, by decide +kernel⟩, by decide +kernel⟩,
   sized_chime, settled_chime, admitted rfl rfl, by decide +kernel⟩

/-- Bus 1 holds an entry in RAMP with its step. -/
theorem witness_MixPeriodComputesEveryBus :
    (let s := withBus 1 (fun b => { b with live := [{ entryOf 3 0 16384 .ramp with step := some 5 }, entryOf 4 1 1 .cut] }) w
     Sized s ∧ s.pins.resetLow = false ∧ ∀ b < 64, ∀ x ∈ (s.bus b).live, x.mode = .ramp → x.step.isSome = true) :=
  ⟨by constructor <;> decide +kernel, by decide +kernel⟩

/-- From 0 to 32,767 in 4 periods by steps of 8,192. -/
theorem witness_RampReachesItsTarget :
    (let x := { entryOf 0 0 32767 .ramp with step := some 8192 }
     x.mode = .ramp ∧ 0 < 4 ∧ x.step = some (max 1 ((distance x.cur x.target + 4 - 1) / 4)) ∧ 4 ≤ 4 ∧ x.cur ≤ x.target) ∧
    (let x := { entryOf 0 32767 0 .ramp with step := some 32767 }
     x.mode = .ramp ∧ 0 < 1 ∧ x.step = some (max 1 ((distance x.cur x.target + 1 - 1) / 1)) ∧ x.target ≤ x.cur) := by decide +kernel

/-- Out of range, each alone: bus, role, number, form and repetition of the destinations. -/
theorem witness_LoadOutputWritesTheBus_range : Sized w ∧ Admitted hd .config w ∧ 63 < 64 ∧ 2 < 3 ∧
    4 < (List.replicate 5 (⟨1, 0, 0⟩ : RawLoc)).length ∧ (List.replicate 5 (⟨1, 0, 0⟩ : RawLoc)).length ≤ 7 ∧
    none ∈ [(⟨1, 8, 0⟩ : RawLoc)].map destOf ∧ ¬ ([(⟨1, 7, 0⟩ : RawLoc), ⟨1, 7, 0⟩].map destOf).Nodup :=
  ⟨sized_w, admitted rfl rfl, by decide +kernel⟩

/-- For bus 63, local output 7 and slot 23 of port 5: in use by bus 62; then free, with the bus unbound. -/
theorem witness_LoadOutputWritesTheBus_use :
    (63 ≤ 63 ∧ roleOf 0 = some .unused ∧ [(⟨1, 7, 0⟩ : RawLoc), ⟨0, 5, 23⟩].length ≤ 4 ∧
      [(⟨1, 7, 0⟩ : RawLoc), ⟨0, 5, 23⟩].map destOf = [Dest.localOut 7, .slot 5 23].map some ∧ [Dest.localOut 7, .slot 5 23].Nodup) ∧
    (let s := withBus 62 (fun b => { b with dests := [.localOut 7] }) w
     Sized s ∧ Admitted hd .config s ∧ ∃ n < 64, n ≠ 63 ∧ ∃ d ∈ [Dest.localOut 7, .slot 5 23], d ∈ (s.bus n).dests) ∧
    ¬ (∃ n < 64, n ≠ 63 ∧ ∃ d ∈ [Dest.localOut 7, .slot 5 23], d ∈ (w.bus n).dests) ∧
    ¬ (((w.bus 63).role = .zone ∧ (w.bus 63).zone ≠ none ∧ Role.unused ≠ .zone) ∨
        ((w.bus 63).role = .talk ∧ (∃ g < 8, ∃ m ∈ (w.group g).members, m.bus = 63) ∧ Role.unused ≠ .talk)) ∧
    ¬ ((w.bus 63).line.length < min 4800 0 ∧
        32768 < ((List.range 64).map (fun n => if n = 63 then min 4800 0 else (w.bus n).line.length)).sum) ∧
    (∃ j, Dest.localOut j ∈ [Dest.localOut 7, .slot 5 23]) ∧ ∀ j, Dest.localOut j ∉ [Dest.slot 5 23] :=
  ⟨by decide +kernel, ⟨by constructor <;> decide +kernel, admitted rfl rfl, by decide +kernel⟩, by decide +kernel,
   by decide +kernel, by decide +kernel, ⟨7, by decide⟩, by simp⟩

/-- Bus 0 belongs to a zone and bus 5 to a member: neither may become UNUSED. In a full pool a line of 512 may not grow by 1. -/
theorem witness_LoadOutputWritesTheBus_refusals :
    ((w.bus 0).role = .zone ∧ (w.bus 0).zone ≠ none ∧ Role.unused ≠ .zone) ∧
    (((talk 1).bus 5).role = .talk ∧ (∃ g < 8, ∃ m ∈ ((talk 1).group g).members, m.bus = 5) ∧ Role.unused ≠ .talk) ∧
    Sized pool ∧ Admitted hd .config pool ∧
    (¬ (∃ n < 64, n ≠ 63 ∧ ∃ d ∈ ([] : List Dest), d ∈ (pool.bus n).dests)) ∧ (pool.bus 63).role = .unused ∧
    ((pool.bus 63).line.length < min 4800 513 ∧
      32768 < ((List.range 64).map (fun n => if n = 63 then min 4800 513 else (pool.bus n).line.length)).sum) ∧
    ¬ ((pool.bus 63).line.length < min 4800 512) :=
  ⟨by decide +kernel, by decide +kernel, sized_pool, admitted rfl rfl, by decide +kernel⟩

/-- Each range alone; then zone 0 with a claim in its list, a TALK bus, a bus of another zone, and zones 95 and 0 that are taken. -/
theorem witness_LoadZoneWritesOrFreesTheRecord : Sized w ∧ Admitted hd .config w ∧ Sized cl ∧ Admitted hd .config cl ∧
    (95 < 96 ∧ 3 < 4 ∧ 16 < 17 ∧ 8 < (List.replicate 9 2).length ∧ (List.replicate 9 2).length ≤ 12 ∧ (∃ b ∈ [64], 63 < b) ∧
      ¬ [2, 2].Nodup ∧ (∃ n ∈ some 8, 7 < n) ∧ ∃ g ∈ some 16, 15 < g) ∧
    (∀ z : Nat, z = 0 ∨ z = 95 → ∀ b : List Nat, b = [0, 2] ∨ b = [4] → ¬ (95 < z ∨ 3 < 3 ∨ 16 = 0 ∨ 16 < 16 ∨ b = [] ∨ 8 < b.length ∨
      (∃ x ∈ b, 63 < x) ∨ ¬ b.Nodup ∨ (∃ n ∈ some 7, 7 < n) ∨ ∃ g ∈ some 15, 15 < g)) ∧
    cl.claimList 0 ≠ [] ∧ (w.claimList 95 = [] ∧ ∃ b ∈ [4], (w.bus b).role ≠ .zone) ∧
    ((∀ b ∈ [0, 2], (w.bus b).role = .zone) ∧ ∃ b ∈ [0, 2], ∃ z ∈ (w.bus b).zone, z ≠ 95) ∧
    (w.claimList 0 = [] ∧ (∀ b ∈ [0, 2], (w.bus b).role = .zone ∧ ∀ z ∈ (w.bus b).zone, z = 0) ∧ (w.zone 0).isSome = true) ∧
    ((∀ b ∈ [2], (w.bus b).role = .zone ∧ ∀ z ∈ (w.bus b).zone, z = 95) ∧ w.zone 95 = none) :=
  ⟨sized_w, admitted rfl rfl, sized_cl, admitted rfl rfl, by decide +kernel,
   by rintro z (rfl | rfl) b (rfl | rfl) <;> simp, by decide +kernel⟩

/-- In a settled state with a claim, zone 95 is free for bus 2 and zone 1 for an UNLOAD; under FIRE, without
a THEATRE zone, a LOAD of zone 95 as one sets the show-stop latch. -/
theorem witness_LoadZoneWritesOrFreesTheRecord_settled :
    (Sized live ∧ Settled live ∧ ClaimInv live ∧ TalkInv live ∧ Admitted hd .config live ∧ live.claimList 95 = [] ∧ live.zone 95 = none ∧
      (∀ b ∈ [2], (live.bus b).role = .zone ∧ ∀ z ∈ (live.bus b).zone, z = 95) ∧ live.claimList 1 = [] ∧ live.zone 1 ≠ none) ∧
    (let m := after (.loadZoneLoad hd 95 3 1 [2] none none none none none none) alight
     Sized alight ∧ alight.showCtl.showStop = false ∧ alight.claimList 95 = [] ∧ m.zone 95 ≠ none ∧ m.showCtl.showStop = true) :=
  ⟨⟨sized_live, settled_live, claims_of_tests.2.1, talk_of_tests.2, admitted rfl rfl, by decide +kernel⟩,
   sized_alight, by decide +kernel⟩

/-- Zone 2 is UNLOADED, zone 1 is a THEATRE zone, and zone 0 a CABIN zone under no alarm that hears nothing. -/
theorem witness_CabinLevelSetsTheLevel : Admitted hd .operator w ∧ w.zone 2 = none ∧ (∃ o, w.zone 1 = some o ∧ o.kind ≠ .cabin) ∧
    ∃ o, w.zone 0 = some o ∧ o.kind = .cabin ∧ o.applied = none ∧ heardOf w 0 = none ∧ o.held = false :=
  ⟨admitted rfl rfl, by decide +kernel, ⟨_, rfl, by decide +kernel⟩, _, rfl, by decide +kernel⟩

/-- Zone 0 in mode VOICE, and under FIRE. -/
theorem witness_LayersFollowTheirTables : cl.pins.resetLow = false ∧
    (∃ t n, exec .mixPeriod cl = .next t ∧ t.zone 0 = some n) ∧
    ∃ t n, exec .mixPeriod fire = .next t ∧ t.zone 0 = some n :=
  ⟨rfl, ⟨_, _, ran .mixPeriod cl, Option.some_get (by decide +kernel) |>.symm⟩,
   _, _, ran .mixPeriod fire, Option.some_get (by decide +kernel) |>.symm⟩

/-- Each refusal of a PAGE-OPEN in order: no target (none of kind 0, zone 2 UNLOADED, a fifth kind), source, rule, on-preempt, chime;
then a full table. -/
theorem witness_PageOpenMakesAClaim_refusals : Sized w ∧ ClaimInv w ∧
    Admitted hd (if 6 < 7 then .operator else .bridge) w ∧ Admitted hd (if 7 < 7 then .operator else .bridge) w ∧
    (let zs : PageTarget → List Nat := fun target => (List.range 96).filter (fun z => match target with
        | .zones set => set.getLsbD z
        | .kinds mask => (w.zone z).any (fun n => mask.testBit n.kind.ctorIdx))
     zs (.kinds 0) = [] ∧ (∃ z ∈ zs (.zones 4), w.zone z = none) ∧ 15 < 16 ∧ zs (.zones 1) = [0] ∧ zs (.kinds 9) = [0, 1]) ∧
    (127 < 128 ∧ 1 < 2 ∧ (∃ n ∈ some 32, 31 < n ∨ (w.cadence n).steps = []) ∧ ∃ n ∈ some 31, 31 < n ∨ (w.cadence n).steps = []) ∧
    ((w.zone 0 ≠ none ∧ w.zone 1 ≠ none) ∧
      ¬ (127 < 127 ∨ 1 < 1 ∨ 1 < 1 ∨ ∃ n ∈ some 0, 31 < n ∨ (w.cadence n).steps = [])) ∧
    (Sized fullTable ∧ ∀ k < 48, fullTable.claim k ≠ none) :=
  ⟨sized_w, by unfold ClaimInv ListRules; decide +kernel, admitted rfl rfl, admitted rfl rfl, by decide +kernel, by decide +kernel,
   by decide +kernel, sized_fullTable, by decide +kernel⟩

/-- Claim 0 is the lowest FREE one, or in `cl` claim 1: a claim of priority 4 joins and heads zone 0 in `w`; one of priority 3 joins it
in `cl` and does not head it, and in `fire` no claim below 7 heads; in `fullList` none joins. -/
theorem witness_PageOpenMakesAClaim_lists :
    (w.claim 0 = none ∧ ∀ z ∈ [0], ((w.claimList z).length < 6) ∧ (underAlarm w z = false ∨ 4 = 7) ∧
      ∀ d, headOf w z = some d → claimPriority w d < 4) ∧
    (cl.claim 1 = none ∧ (∀ j < 1, cl.claim j ≠ none) ∧ (cl.claimList 0).length < 6 ∧ headOf cl 0 = some 0 ∧
      ¬ claimPriority cl 0 < 3 ∧ ∃ z ∈ [0], underAlarm cl z = false) ∧
    (Sized fire ∧ fire.claim 0 = none ∧ (∀ z ∈ [0], underAlarm fire z = true) ∧ 6 < 7) ∧
    (Sized fullList ∧ fullList.claim 6 = none ∧ (∀ j < 6, fullList.claim j ≠ none) ∧
      ∀ z ∈ [0], ¬ ((fullList.claimList z).length < 6 ∨ ((fullList.claimList z).getLast?.any
        (fun d => decide (claimPriority fullList d < 7)) = true))) :=
  ⟨by decide +kernel, by decide +kernel, ⟨sized_fire, by decide +kernel⟩, sized_fullList, by decide +kernel⟩

/-- Settled states: one without claims, where a chime takes voice 0; one where a claim of priority 4 heads zone 0 in place of claim 0; and
one where it stands in place of claim 5, the last of six. -/
theorem witness_PageOpenMakesAClaim_settled :
    (Sized calm ∧ ClaimInv calm ∧ Settled calm ∧ TalkInv calm ∧ Admitted hd .operator calm ∧ (∀ d < 48, calm.claim d = none) ∧
      (calm.port 2).egress.length < 8 ∧ (calm.cadence 0).steps ≠ [] ∧
      ((after (.pageOpen hd 4 0 (.zones 1) 0 false 0 (some 0) 600) calm).claim 0).map (fun c => (c.state, c.voice)) = some (.chiming, some 0)) ∧
    (Sized live ∧ ClaimInv live ∧ Settled live ∧ TalkInv live ∧ Admitted hd .operator live ∧ live.claim 1 = none ∧
      (∀ j < 1, live.claim j ≠ none) ∧ headOf live 0 = some 0 ∧ (live.claim 0).any (fun c => decide (c.priority < 4)) = true) ∧
    (Sized six ∧ ClaimInv six ∧ Settled six ∧ Admitted hd .operator six ∧ six.claim 6 = none ∧ (∀ j < 6, six.claim j ≠ none) ∧
      6 ≤ (six.claimList 0).length ∧ (six.claimList 0).getLast? = some 5 ∧ (six.claim 5).any (fun c => decide (c.priority < 4)) = true) :=
  ⟨⟨sized_calm, claims_of_tests.1, settled_calm, talk_of_tests.1, admitted rfl rfl, by decide +kernel⟩,
   ⟨sized_live, claims_of_tests.2.1, settled_live, talk_of_tests.2, admitted rfl rfl, by decide +kernel⟩,
   sized_six, claims_of_tests.2.2.1, settled_six, admitted rfl rfl, by decide +kernel⟩

theorem witness_ClaimInv : ClaimInv cl ∧ ClaimInv fullList ∧ ClaimInv fire := by
  unfold ClaimInv ListRules; decide +kernel

/-- Claim 0 of node 9, its timer and its source watch at their last frame period and its source UNMAPPED, stands in a settled state
before five others, the first of which its end lets head zone 0; claim 47 is FREE. Every ending leaves room in the queue of its port. -/
theorem witness_ClaimsEndAndAreReported : Sized six ∧ Settled six ∧ ClaimInv six ∧ TalkInv six ∧ Admitted hd .operator six ∧
    (∀ c ∈ six.claim 47, c.origin ≠ 9) ∧
    ∃ c, six.claim 0 = some c ∧ c ∈ six.claim 0 ∧ c.origin = hd.src ∧ c.timer = some 1 ∧ 1 ≤ 1 ∧
      streamAvailable six c.source = false ∧ 48000 ≤ c.watch + 1 ∧ c.originPort < 6 ∧
      ∀ i ∈ [Instr.pageClose { hd with bcast := true } 0, .timeLimitExpiry 0, .sourceWatchExpiry 0],
        ((after i six).port c.originPort).egress.length < 8 ∧ ((after i six).claim 1).any (fun d => d.state == .live) = true :=
  ⟨sized_six, settled_six, claims_of_tests.2.2.1, talk_of_six, admitted rfl rfl, by decide +kernel, _, rfl, rfl, by decide +kernel⟩

/-- A sounding step ON, a phase that is not ON, and a silent step; the other voices are FREE. -/
theorem witness_VoicesProduceTheirSamples : (let s := voice (.signal .fire) 0 0 1 0 .on 1 w
    Sized s ∧ s.pins.resetLow = false ∧ (s.voice 0).holder = .free ∧ (s.voice 7).holder ≠ .free ∧
      (∀ v < 8, (s.voice v).holder = .free ∨ (s.voice v).phase = .ended ∨ (s.voice v).timer ≠ 0) ∧
      ∃ st, (s.voice 7).cadence = some 0 ∧ (s.cadence 0).steps[(s.voice 7).step]? = some st ∧ (s.voice 7).phase = .on ∧
        st.freq ≠ 0 ∧ st.duty ≠ 0) ∧ ((voice (.claim 3) 0 0 1 0 .off 1 w).voice 7).phase ≠ .on ∧
    (let s := (voice (.signal .fire) 3 0 1 0 .on 1 w).setTone { (voice (.signal .fire) 3 0 1 0 .on 1 w).tone with
        cadences := w.tone.cadences.set 3 { repeats := 1, steps := [⟨0, 99, 16384, 1, 0, 1⟩] } }
     ∃ st, (s.voice 7).cadence = some 3 ∧ (s.cadence 3).steps[(s.voice 7).step]? = some st ∧ (st.freq = 0 ∨ st.duty = 0)) :=
  ⟨⟨sized_voice .., by decide +kernel, by decide +kernel, by decide +kernel, by decide +kernel, _, rfl, rfl, by decide +kernel⟩, by decide +kernel,
   _, rfl, rfl, by decide +kernel⟩

/-- Voice 7 in cadence 0: in its first step ON, at a repetition before the last and at the last; in its last step. -/
theorem witness_StepTimerExpiryEndsThePhase :
    (let s := voice (.signal .fire) 0 0 1 0 .on 0 w
     Sized s ∧ s.pins.resetLow = false ∧ (s.voice 7).holder ≠ .free ∧ (s.voice 7).phase = .on ∧ (s.voice 7).timer = 0 ∧ (s.voice 7).cadence = some 0 ∧
      ∃ st, (s.cadence 0).steps[(s.voice 7).step]? = some st ∧ 0 < st.offMs) ∧
    (let s := voice (.signal .fire) 0 0 6 0 .off 0 w
     (s.voice 7).phase = .off ∧ ∃ st, (s.cadence 0).steps[(s.voice 7).step]? = some st ∧ (s.voice 7).rep < st.count) ∧
    (let s := voice (.signal .fire) 0 0 7 0 .off 0 w
     ∃ st nx, (s.cadence 0).steps[(s.voice 7).step]? = some st ∧ st.count ≤ (s.voice 7).rep ∧
      (s.cadence 0).steps[(s.voice 7).step + 1]? = some nx) ∧
    (let s := voice (.signal .fire) 0 1 1 255 .off 0 w
     ∃ st nx, (s.cadence 0).steps[(s.voice 7).step]? = some st ∧ st.count ≤ (s.voice 7).rep ∧
      (s.cadence 0).steps.length ≤ (s.voice 7).step + 1 ∧ (s.cadence 0).steps[0]? = some nx ∧ (s.cadence 0).repeats = 0 ∧
      ¬ ∃ c, (s.voice 7).holder = .claim c) :=
  ⟨⟨sized_voice .., by decide +kernel, by decide +kernel, by decide +kernel, by decide +kernel, by decide +kernel, _, rfl, by decide +kernel⟩,
   ⟨by decide +kernel, _, rfl, by decide +kernel⟩, ⟨_, _, rfl, by decide +kernel, rfl⟩,
   ⟨_, _, rfl, by decide +kernel, by decide +kernel, rfl, by decide +kernel, nofun⟩⟩

/-- A signal's voice whose repeat count of 1 is reached, and a chime that ends in its first pass and heads a zone. -/
theorem witness_StepTimerExpiryEndsThePhase_complete :
    (let s := (voice (.signal .general) 3 0 1 0 .on 0 w).setTone { (voice (.signal .general) 3 0 1 0 .on 0 w).tone with
        cadences := w.tone.cadences.set 3 { repeats := 1, steps := [⟨800, 50, 16384, 1, 0, 1⟩] } }
     (s.voice 7).holder = .signal .general ∧ ∃ st, (s.cadence 3).steps[(s.voice 7).step]? = some st ∧ st.offMs = 0 ∧
      st.count ≤ (s.voice 7).rep ∧ (s.cadence 3).steps.length ≤ (s.voice 7).step + 1 ∧ (s.cadence 3).repeats ≠ 0 ∧
      (s.cadence 3).repeats ≤ min 255 ((s.voice 7).passes + 1)) ∧
    Sized chiming ∧ (chiming.voice 7).timer = 0 ∧ (chiming.voice 7).holder = .claim 0 ∧ (chiming.voice 7).phase = .off ∧ (chiming.cadence 0).repeats = 0 ∧
    headZones chiming 0 ≠ [] ∧ ∃ st c, (chiming.cadence 0).steps[(chiming.voice 7).step]? = some st ∧
      st.count ≤ (chiming.voice 7).rep ∧ (chiming.cadence 0).steps.length ≤ (chiming.voice 7).step + 1 ∧
      chiming.claim 0 = some c ∧ c.limit ≠ 0 ∧ c.timer = none :=
  ⟨⟨by decide +kernel, _, rfl, by decide +kernel⟩, sized_chiming, by decide +kernel, by decide +kernel, by decide +kernel, by decide +kernel,
   by decide +kernel, _, _, rfl, by decide +kernel, by decide +kernel, rfl, by decide +kernel⟩

/-- A settled state with a chime at its end. Signals that begin: FIRE, which sounds in `fire`, with voice 0 the lowest FREE one, and with
every voice held by a chime; a cadence without steps and one with; ALARM-SET where no claim is in use. -/
theorem witness_StepTimerExpiryEndsThePhase_voices :
    (Sized chime ∧ Settled chime ∧ (chime.voice 7).holder = .claim 0 ∧ (chime.voice 7).phase = .off ∧ (chime.voice 7).timer = 0 ∧
      headZones chime 0 ≠ []) ∧
    (Sized fire ∧ (¬ ∃ v < 8, (fire.voice v).holder = .signal .fire) ∧ (∃ z < 96, ∃ n ∈ fire.zone z, n.applied = some .fire) ∧
      (fire.voice 0).holder = .free) ∧
    (let s := held8.setZones fire.zones
     Sized s ∧ (∃ z < 96, ∃ n ∈ s.zone z, n.applied = some .fire) ∧ (∀ v < 8, (s.voice v).holder ≠ .free) ∧
      (∀ v < 8, (s.voice v).holder = .claim 0) ∧ s.claim 0 ≠ none) ∧
    ((calm.cadence 3).steps = [] ∧ (calm.cadence 0).steps ≠ [] ∧ (calm.voice 0).holder = .free) ∧
    (Sized calm ∧ Settled calm ∧ Admitted hd .bridge calm ∧ (∀ c < 48, ∀ cl ∈ calm.claim c, cl.priority = 7) ∧
      (∀ u < 8, (calm.voice u).holder = .free) ∧ ((after (.alarmSet hd 1 2) calm).voice 0).holder = .signal .fire) :=
  ⟨⟨sized_chime, settled_chime, by decide +kernel⟩, ⟨sized_fire, by decide +kernel⟩,
   ⟨by constructor <;> decide +kernel, by decide +kernel⟩, by decide +kernel, sized_calm, settled_calm, admitted rfl rfl,
   by decide +kernel⟩

/-- Cadence 31 is held in one state; in another it has ten steps, which two more fill and which the eleventh state overfills. -/
theorem witness_LoadCadenceWritesTheSteps : Admitted hd .config w ∧ 2 < 3 ∧ 31 < 32 ∧ [(⟨0, 0, 0, 0, 0, 0⟩ : RawStep), ⟨0, 0, 0, 0, 0, 0⟩].length ≤ 2 ∧
    (∃ x ∈ (voice (.signal .fire) 31 0 1 0 .on 1 w).tone.voices, x.holder ≠ .free ∧ x.cadence = some 31) ∧
    (let s : Nat → State := fun k => w.setTone { w.tone with
        cadences := w.tone.cadences.set 31 { repeats := 1, steps := List.replicate k ⟨800, 50, 16384, 1, 0, 1⟩ } }
     Admitted hd .config (s 11) ∧ (¬ ∃ x ∈ (s 11).tone.voices, x.holder ≠ .free ∧ x.cadence = some 31) ∧
      12 < ((s 11).cadence 31).steps.length + 2 ∧ ((s 10).cadence 31).steps.length + 2 ≤ 12) :=
  ⟨admitted rfl rfl, by decide +kernel, by decide +kernel, by decide +kernel, by decide +kernel, admitted rfl rfl, by decide +kernel⟩

/-- Ranges of LOAD-SIGNAL and of the kinds and zones of ALARM-SET; a contact that is OPEN and one that is CLOSED; a THEATRE zone. -/
theorem witness_AlarmSourcesAreResolvedAndApplied : Sized w ∧ Admitted hd .bridge w ∧ w.pins.resetLow = false ∧
    (2 < 3 ∧ 31 < 32 ∧ 15 < 16) ∧ (2 ≤ 2 ∧ 31 ≤ 31 ∧ 15 ≤ 15) ∧ (3 < 4 ∧ (0 : BitVec 16) = 0) ∧
    (1 ≤ 3 ∧ 3 ≤ 3 ∧ (0x8000 : BitVec 16) ≠ 0) ∧ w.alarm.contactClosed = false ∧ w.alarm.contactClosed ≠ true ∧
    (let s := w.setAlarm { w.alarm with contactClosed := true, contactCount := 959 }
     Sized s ∧ Admitted hd .bridge s ∧ s.alarm.contactClosed = true ∧ s.alarm.contactClosed ≠ false ∧
      960 ≤ s.alarm.contactCount + 1) ∧
    (let s := w.setAlarm { w.alarm with contactCount := 959 }
     Sized s ∧ s.pins.resetLow = false ∧ s.alarm.contactClosed ≠ true ∧ 960 ≤ s.alarm.contactCount + 1) ∧
    ∃ o n, w.zone 1 = some o ∧ (after (.alarmSet hd 1 3) w).zone 1 = some n ∧ n.kind = .theatre ∧ o.applied ≠ n.applied ∧
      n.applied = some .general :=
  ⟨sized_w, admitted rfl rfl, rfl, by decide, by decide, by decide, by decide, rfl, nofun, ⟨{ sized_w with }, admitted rfl rfl, by decide +kernel⟩,
   ⟨{ sized_w with }, by decide +kernel⟩, _, _, rfl,
   Option.some_get (by decide +kernel) |>.symm, by decide +kernel⟩

/-- A settled state with a claim, and one that reports: seven cells wait on trunk 0, and one fire zone changes. -/
theorem witness_AlarmSourcesAreResolvedAndApplied_settled :
    (Sized live ∧ Settled live ∧ ClaimInv live ∧ TalkInv live ∧ Admitted hd .bridge live) ∧
    (let s := reporting 7 w
     Sized s ∧ Admitted hd .bridge s ∧ s.node.report = some 254 ∧ 254 ≠ s.node.id ∧ (s.port 0).state = .up ∧
      s.node.routes.getD 254 none = none ∧ ((List.range 16).map (· + 1)).filter (fun f =>
        ((after (.alarmSet hd 0x8000 3) s).fireZone f).resolved != (s.fireZone f).resolved) = [16] ∧ (s.port 0).egress.length + 1 ≤ 8) :=
  ⟨⟨sized_live, settled_live, claims_of_tests.2.1, talk_of_tests.2, admitted rfl rfl⟩, by constructor <;> decide +kernel,
   admitted rfl rfl, by decide +kernel⟩

/-- A settled state under FIRE, which a LOAD-SIGNAL takes from the THEATRE zone; and one in which it gives it to that zone again, whose
show-stop latch has been cleared. -/
theorem witness_AlarmSourcesAreResolvedAndApplied_signal : Sized sounding ∧ Settled sounding ∧ ClaimInv sounding ∧ TalkInv sounding ∧
    Admitted hd .bridge sounding ∧
    (let off := after (.showClearShowStop hd) (after (.loadSignal hd 1 1 16384 4096 7) sounding)
     off.showCtl.showStop = false ∧ (off.zone 1).map (·.applied) = some none ∧
      (after (.loadSignal hd 1 1 16384 4096 15) off).showCtl.showStop = true) :=
  ⟨sized_sounding, settled_sounding, claims_of_alarms.1, talk_of_alarms.1, ⟨by decide +kernel, by decide +kernel⟩, by decide +kernel⟩

/-- FIRE, on voice 0, goes on sounding when a LOAD-SIGNAL gives it cadence 0 in place of cadence 1, when it keeps cadence 1, and when an
ALARM-SET brings another fire zone FIRE. -/
theorem witness_AlarmSourcesAreResolvedAndApplied_restart : Sized sounding ∧ Settled sounding ∧ Admitted hd .bridge sounding ∧
    (sounding.voice 0).holder = .signal .fire ∧ (sounding.signal .fire).cadence = 1 ∧ Sounds (after (.alarmSet hd 2 2) sounding) .fire ∧
    ∀ cad ∈ [0, 1], ∃ z < 96, ∃ n ∈ (after (.loadSignal hd 1 cad 16384 4096 15) sounding).zone z, n.applied = some .fire :=
  ⟨sized_sounding, settled_sounding, ⟨by decide +kernel, by decide +kernel⟩, by decide +kernel⟩

/-- Each range alone; nine members and two more; stations, roles and buses in the order of the checks; and two that fit. -/
theorem witness_LoadGroupWritesTheMembers :
    Sized nine ∧ Admitted hd .config nine ∧ Sized (talk 1) ∧ Admitted hd .config (talk 1) ∧
    ((talk 1).group 0).members.map (fun m => (m.station, m.state)) = [(9, .idle), (11, .talking)] ∧ leadsTo (talk 1) 11 = some 0 ∧
    ((talk 1).port 0).egress.length + 1 ≤ 8 ∧
    (7 < 8 ∧ 4 < 5 ∧ 254 < 255 ∧ 127 < 128 ∧ 63 < 64) ∧
    (let bad : List RawMember → Prop := fun ms => 7 < 7 ∨ 4 = 0 ∨ 4 < 4 ∨ ∃ m ∈ ms, 254 < m.station ∨ 127 < m.stream ∨ 63 < m.bus
     let m : Nat → Nat → RawMember := fun st b => ⟨st, 127, b, 65535, true, true, 65535⟩
     (¬ bad [m 254 6, m 253 7] ∧ 10 < (nine.group 0).members.length + 2 ∧ (nine.group 0).members.length + 1 ≤ 10) ∧
     (((talk 1).group 0).members.length + 2 ≤ 10 ∧ ∃ r ∈ [m 254 6, m 11 7], ∃ k ∈ ((talk 1).group 0).members, k.station = r.station) ∧
     ¬ ([m 254 6, m 254 7].map (·.station)).Nodup ∧
     (([m 254 6, m 253 63].map (·.station)).Nodup ∧
      (¬ ∃ r ∈ [m 254 6, m 253 63], ∃ k ∈ ((talk 1).group 0).members, k.station = r.station) ∧
      ∃ r ∈ [m 254 6, m 253 63], ((talk 1).bus r.bus).role ≠ .talk) ∧
     ((¬ ∃ r ∈ [m 254 6, m 253 5], ((talk 1).bus r.bus).role ≠ .talk) ∧
      ∃ r ∈ [m 254 6, m 253 5], ∃ g < 8, (false = false ∨ g ≠ 0) ∧ ∃ k ∈ ((talk 1).group g).members, k.bus = r.bus) ∧
     ((¬ ∃ r ∈ [m 254 6, m 253 7], ((talk 1).bus r.bus).role ≠ .talk) ∧ ([m 254 6, m 253 7].map (·.bus)).Nodup ∧
      ¬ ∃ r ∈ [m 254 6, m 253 7], ∃ g < 8, (false = false ∨ g ≠ 0) ∧ ∃ k ∈ ((talk 1).group g).members, k.bus = r.bus)) :=
  ⟨sized_nine, admitted rfl rfl, sized_talk 1, admitted rfl rfl, by decide +kernel⟩

/-- Member 0 of station 9: SUSPENDED; IDLE and calling; IDLE with room; IDLE in a full set with and without the priority flag. Member 1
of station 11 TALKING. -/
theorem witness_TalkKeyOnAdmitsTheMember : Sized (talk 1) ∧ Admitted hd .operator (talk 1) ∧ Sized (talk 2) ∧
    Sized (keyed true .suspended) ∧ Sized (keyed false .idle) ∧
    (7 < 8 ∧ ((talk 1).group 7).members = [] ∧
    ((keyed true .suspended).group 0).members[0]?.any (fun mb : Member => mb.station == hd.src && mb.state == .suspended) = true ∧
    (let s := (talk 1).setTalk { (talk 1).talk with calling := (talk 1).talk.calling.set 0 1 }
     (s.group 0).members[0]?.any (fun mb : Member => mb.state == .idle && decide (0 < s.calling mb.stream)) = true) ∧
    (((talk 2).group 0).members[0]?.any (fun mb : Member => mb.state == .idle && (talk 2).calling mb.stream == 0) = true ∧
      ((talk 2).group 0).talkers.length < ((talk 2).group 0).limit) ∧
    (((talk 1).group 0).members[0]?.any (fun mb : Member => mb.station == hd.src && mb.state == .idle && mb.prio) = true ∧
      ((talk 1).group 0).limit ≤ ((talk 1).group 0).talkers.length ∧
      ((talk 1).group 0).talkers = ([] : List Nat) ++ [1] ++ [] ∧ ((talk 1).group 0).members[1]?.any (fun d : Member => !d.prio) = true) ∧
    (((keyed false .idle).group 0).members[0]?.any (fun mb : Member => mb.state == .idle && !mb.prio) = true ∧
      ((keyed false .idle).group 0).limit ≤ ((keyed false .idle).group 0).talkers.length) ∧
    ((talk 1).group 0).members.map (fun mb : Member => (mb.station, mb.state)) = [(9, .idle), (11, .talking)]) :=
  ⟨sized_talk 1, admitted rfl rfl, sized_talk 2, sized_keyed true .suspended, sized_keyed false .idle, by decide +kernel⟩

/-- Stations 9 and 11 are reached over trunk 0: one notice joins seven cells, two join six. -/
theorem witness_TalkKeyOnAdmitsTheMember_notices : ∀ x ∈ [(7, [(9, 0, 3, 0)]), (7, [(9, 0, 0, 1)]), (6, [(11, 1, 2, 0), (9, 0, 0, 1)])],
    (let s := reporting x.1 (talk 1)
     Sized s ∧ 0 < 6 ∧ x.2.filter (fun y : Nat × Nat × Nat × Nat => y.1 != s.node.id && decide (y.1 ≤ 254) && leadsTo s y.1 == some 0) = x.2 ∧
      (s.port 0).egress.length + x.2.length ≤ 8) :=
  fun x h => ⟨{ sized_talk 1 with ports := (List.length_modify ..).trans (sized_talk 1).ports }, by revert x; decide +kernel⟩

/-- Member 0 of station 9, SUSPENDED and IDLE; member 1 of station 11 with its timer at its last frame period; both stations are reached
over trunk 0, where seven cells wait. -/
theorem witness_TalkKeyOffAndTimerReleaseTheMember :
    (let s := reporting 7 (keyed true .suspended)
     Sized s ∧ Admitted hd .operator s ∧
      (s.group 0).members[0]?.any (fun mb : Member => mb.station == hd.src && mb.state != .idle) = true ∧ 9 ≠ s.node.id ∧ 9 ≤ 254 ∧
      s.node.routes.getD 9 none = none ∧ (s.port 0).state = .up ∧ (s.port 0).egress.length < 8) ∧
    (Sized (talk 1) ∧ Admitted hd .operator (talk 1) ∧
      ((talk 1).group 0).members[0]?.any (fun mb : Member => mb.station == hd.src && mb.state == .idle) = true) ∧
    (let s := (talk 1).modGroup 0 (fun g => { g with members := g.members.map (fun m => { m with timer := m.timer.map (fun _ => 1) }) })
     Sized s ∧ s.pins.resetLow = false ∧ ((s.group 0).members[1]?.bind (fun mb : Member => mb.timer)) = some 1 ∧ 1 ≤ 1 ∧
      ((s.group 0).members[1]?.map (fun mb : Member => mb.station)) = some 11 ∧ 11 ≠ s.node.id ∧ s.node.routes.getD 11 none = none ∧
      (s.port 0).state = .up ∧ (s.port 0).egress.length < 8) :=
  ⟨⟨by constructor <;> decide +kernel, admitted rfl rfl, by decide +kernel⟩, ⟨sized_talk 1, admitted rfl rfl, by decide +kernel⟩,
   by constructor <;> decide +kernel, by decide +kernel⟩

/-- Ranges alone; a repeated pair, a seventeenth entry of one bus, a full pool, and entries that fit; the cue ranges. -/
theorem witness_SceneAndCueLoadsWriteTheirTables : Admitted hd .config show9 ∧ Admitted hd .config fullPool ∧ 15 < 16 ∧
    (∃ e ∈ [(⟨64, 0, 0, 0⟩ : RawEntry)], 63 < e.bus) ∧ (∃ e ∈ [(⟨1, 128, 0, 0⟩ : RawEntry)], 127 < e.stream) ∧
    (∃ e ∈ [(⟨0, 0, 0, 0⟩ : RawEntry)], (show9.scene 3).scope.getLsbD e.bus = false) ∧ (∃ e ∈ [(⟨1, 0, 0, 3⟩ : RawEntry)], 2 < e.mode) ∧
    (let new : List SceneEntry := [⟨1, 127, 32767, .cut⟩]
     let raw : List RawEntry := [⟨1, 127, 65535, 2⟩]
     (∀ e ∈ raw, e.bus ≤ 63 ∧ e.stream ≤ 127 ∧ (show9.scene 3).scope.getLsbD e.bus = true) ∧
     new.map (fun e => (e.bus, e.stream, e.coef)) = raw.map (fun e => (e.bus, e.stream, min 32767 e.coef)) ∧
     raw.map (fun e => changeModeOf e.mode) = new.map (fun e => some e.mode) ∧ raw.length ≤ 4 ∧
     (let all := (show9.scene 3).entries ++ new
      (all.map (fun e => (e.bus, e.stream))).Nodup ∧ ∀ e ∈ all, all.countP (fun d => d.bus == e.bus) ≤ 16) ∧
     ((show9.showCtl.scenes.map (fun sc => sc.entries.length)).sum - (show9.scene 3).entries.length) +
        (show9.scene 3).entries.length + new.length ≤ 2048 ∧
     2048 < (fullPool.showCtl.scenes.map (fun sc => sc.entries.length)).sum - (fullPool.scene 3).entries.length + 0 + new.length ∧
     ¬ ((new ++ new).map (fun e => (e.bus, e.stream))).Nodup) ∧
    (let all : List SceneEntry := (List.range 17).map (fun n => ⟨1, n, 0, .cut⟩)
     ¬ ∀ e ∈ all, all.countP (fun d => d.bus == e.bus) ≤ 16) :=
  ⟨admitted rfl rfl, ⟨rfl, by decide +kernel⟩, by decide +kernel⟩

/-- Bus 1 holds streams 60, which scene 3 names, and 5, which it does not; stream 61 enters. -/
theorem witness_ApplySceneSetsTheCrosspoints : Sized show9 ∧ SceneRules (show9.scene 3) ∧ Admitted hd .operator show9 ∧ 15 < 16 ∧
    (show9.bus 63).role ≠ .zone ∧ (show9.scene 3).scope.getLsbD 0 = false ∧
    (let s := withBus 1 (fun b => { b with live := [entryOf 60 0 9 .zeroCross, entryOf 5 9 9 .cut] }) show9
     Sized s ∧ SceneRules (s.scene 3) ∧ (s.bus 1).role = .zone ∧ (s.scene 3).scope.getLsbD 1 = true ∧
      ((s.bus 1).live.map XPoint.complete).filter (fun x => !x.retiring) ≠ []) :=
  ⟨sized_show9, by unfold SceneRules; decide +kernel, admitted rfl rfl, by decide, by decide +kernel, by decide +kernel,
   by constructor <;> decide +kernel, by unfold SceneRules; decide +kernel, by decide +kernel⟩

theorem witness_GoGotoAndAutoFollowTakeTheCue : Sized show9 ∧ Admitted hd .operator show9 ∧ Sized (following true) ∧
    Sized (following false) ∧ (show9.showCtl.showStop = false ∧ show9.showCtl.current = none ∧ (show9.cue 0).isSome = true ∧
    (show9.cue 7).isSome = true ∧ show9.cue 64 = none ∧ w.cue 0 = none ∧ (following true).showCtl.showStop = true ∧
    ((following true).cue 7).isSome = true ∧ (following true).showCtl.autoFollow = some 1 ∧ (following true).pins.resetLow = false ∧
    (following true).showCtl.hold = false ∧ (following true).showCtl.autoCounted = false ∧ (following false).showCtl.autoCounted = false ∧ (following false).showCtl.autoFollow = some 1 ∧ (following false).showCtl.hold = false ∧ (following false).showCtl.showStop = false ∧ ((following false).cue 0).isSome = true) ∧
    Settled (following true) :=
  ⟨sized_show9, admitted rfl rfl, sized_following _, sized_following _, by decide +kernel, settled_following true⟩

/-- Zone 1 is a THEATRE zone under FIRE in one state and under nothing in the next; lines 3 and 2 of sources CUE_MARK and OFF; and a
STOP line that has just risen. -/
theorem witness_ShowClearClearsItsLatch : Sized fire ∧ Admitted hd .operator fire ∧
    (∃ z < 96, ∃ n ∈ fire.zone z, n.kind = .theatre ∧ (n.applied = some .fire ∨ n.applied = some .general)) ∧
    (let s := (w.modLine 3 (fun l => { l with source := .cueMark, level := true })).setShow
        { (w.modLine 3 (fun l => { l with source := .cueMark, level := true })).showCtl with cueLatch := true, showStop := true }
     Sized s ∧ Admitted hd .operator s ∧
      (¬ ∃ z < 96, ∃ n ∈ s.zone z, n.kind = .theatre ∧ (n.applied = some .fire ∨ n.applied = some .general)) ∧
      s.showCtl.stopRose = false ∧ s.showCtl.showStop = true ∧ (s.line 2).source ≠ .cueMark ∧ (s.line 3).source = .cueMark ∧
      s.showCtl.cueLatch = true ∧ (s.line 3).width = .direct) ∧
    (let s := after (.gateDebounceComplete 0 true) (gated .stop false)
     Admitted hd .operator s ∧ s.showCtl.stopRose = true) :=
  ⟨sized_fire, admitted rfl rfl, by decide +kernel, ⟨by constructor <;> decide +kernel, admitted rfl rfl, by decide +kernel⟩,
   ⟨by decide +kernel, by decide +kernel⟩, by decide +kernel⟩

/-- Line 0 with its stretch timer stopped, at its last frame period, and before it; and a command that can change a source. -/
theorem witness_LinesAreLoadedAndFollowTheirSources_timers :
    (let s : Nat → State := fun n => w.modLine 0 (fun l => { l with width := .stretch, stretch := 500, level := true, timer := n })
     (∀ n ∈ [0, 1, 2], Sized (s n) ∧ (s n).pins.resetLow = false ∧ ((s n).line 0).timer = n) ∧
     ((s 0).line 0).timer = 0 ∧ ¬ (((s 1).line 0).timer = 0 ∨ 2 ≤ ((s 1).line 0).timer) ∧ 2 ≤ ((s 2).line 0).timer) ∧
    (∃ t, exec (.alarmSet hd 1 3) w = .next t) ∧
    ((frameCell (frame emptyCell)).kind = 0 ∧ ∃ t, exec (.frameArrival 0 (frame emptyCell)) u = .next t) ∧
    (Settled chime ∧ ∃ t, exec .toneVoiceSample chime = .next t) :=
  ⟨⟨fun n _ => ⟨{ sized_w with lines := (List.length_modify ..).trans sized_w.lines }, rfl, by rfl⟩, by decide +kernel⟩, ⟨_, ran ..⟩,
   ⟨by decide +kernel, _, ran ..⟩, settled_chime, _, ran ..⟩

theorem witness_LinesAreLoadedAndFollowTheirSources : Sized w ∧ Admitted hd .config w ∧ w.pins.resetLow = false ∧
    (3 < 4 ∧ 4 < 5 ∧ gateModeOf 3 = some .stop ∧ gateModeOf 0 = some .off) ∧ (3 < 4 ∧ 7 < 8 ∧ 9 < 10 ∧ 2 < 3) ∧
    (4 ≤ 4 ∧ 7 ≤ 7 ∧ lineSources[9]? = some LineSource.island ∧ lineWidths[2]? = some LineWidth.latch ∧
      lineSources[0]? = some LineSource.off ∧ lineWidths[0]? = some LineWidth.direct) ∧
    (let l : LineWidth → Line := fun k =>
       { source := .on, width := k, stretch := 500, level := true, timer := 0, latched := false, rose := false }
     (l .direct).width = .direct ∧ (l .stretch).width = .stretch ∧ (l .latch).width = .latch) :=
  ⟨sized_w, admitted rfl rfl, by decide +kernel⟩

/-- Gate line 0 rises in each mode, with the show-stop latch clear and set, also in settled states, and before an UNLOADED cue; and line 3,
HIGH, falls. -/
theorem witness_GateEdgesActByTheirMode :
    (Sized (gated .stop false) ∧ (gated .stop false).pins.resetLow = false ∧ ((gated .stop false).gate 0).level ≠ true ∧
      ((gated .stop false).gate 0).setting * 48 ≤ ((gated .stop false).gate 0).count + 1 ∧
      ((gated .stop false).gate 0).mode = .stop ∧ (gated .stop false).showCtl.showStop = false) ∧
    (Sized (gated .go false) ∧ ((gated .go false).gate 0).mode = .go ∧ (gated .go false).showCtl.showStop = false ∧
      ((gated .go false).cue (nextCue (gated .go false))).isSome = true) ∧
    (∀ m ∈ [GateMode.go, .stop], Settled (gated m true) ∧ ((gated m true).gate 0).mode = m ∧ (gated m true).showCtl.showStop = true) ∧
    (let s := (gated .go false).setShow { (gated .go false).showCtl with current := some 7 }
     Sized s ∧ Settled s ∧ (s.gate 0).mode = .go ∧ (s.gate 0).level ≠ true ∧ nextCue s = 8 ∧ s.cue 8 = none) ∧
    ((gated .hold false).gate 0).mode = .hold ∧ ((gated .off false).gate 0).mode = .off ∧
    (let s := w.modGate 3 (fun g => { g with level := true, mode := .hold })
     Sized s ∧ (s.gate 3).level ≠ false) ∧
    (let s := w.modGate 3 (fun g => { g with setting := 50, count := 2398 })
     s.pins.resetLow = false ∧ (s.gate 3).count + 1 < (s.gate 3).setting * 48) :=
  ⟨⟨sized_gated .stop false, by decide +kernel⟩, ⟨sized_gated .go false, by decide +kernel⟩,
   fun m h => ⟨settled_gated m, by revert m; decide +kernel⟩,
   ⟨{ sized_gated .go false with }, by apply settled_of <;> decide +kernel, by decide +kernel⟩, by decide +kernel, by decide +kernel, ⟨by constructor <;> decide +kernel, by decide +kernel⟩, by decide +kernel⟩

/-- Sensor 0 is measured, sensor 7 is not; a curve of eight rising points, nine, and two that do not rise. -/
theorem witness_MeterLoadsWriteTheirTables : Sized scanning ∧ Admitted hd .config scanning ∧ 7 < 8 ∧
    (scanning.ambient.scan.window.isSome = true ∧ scanning.ambient.scan.sensor = 0) ∧ scanning.ambient.scan.sensor ≠ 7 ∧
    w.ambient.scan.window = none ∧
    (let all : List (Nat × Nat) → List (Nat × Nat) := fun p =>
        (if false then [] else scanning.curve 1) ++ p.map (fun p => (min 8421375 p.1, max 16384 (min 32767 p.2)))
     let rises : List (Nat × Nat) → Prop := fun l => (l.map Prod.fst).Pairwise (fun a b => a < b)
     let p := [(600001, 0), (600002, 65535), (600003, 0), (4294967295, 0)]
     p.length ≤ 4 ∧ rises (all p) ∧ (all p).length ≤ 8 ∧ ¬ rises (all [(600000, 0)])) ∧
    (let s := scanning.setAmbient { scanning.ambient with
        curves := scanning.ambient.curves.set 7 ((List.range 8).map (fun i => (i, 16384))) }
     Admitted hd .config s ∧ ((s.curve 7 ++ [(8, 16384)]).map Prod.fst).Pairwise (fun a b => a < b) ∧
      8 < (s.curve 7 ++ [(8, 16384)]).length) :=
  ⟨sized_window .., admitted rfl rfl, by decide, by decide +kernel, by decide +kernel, by decide +kernel, by decide +kernel,
   admitted rfl rfl, by decide +kernel⟩

/-- In a settled state with a window whose set holds an unmarked and a marked zone, a command and a frame bring both zones an alarm. -/
theorem witness_ScanStartsAndStops : Sized scanning ∧ Admitted hd .operator scanning ∧ (7 < 8 ∧ 6 < 7 ∧ 1 < 2) ∧
    (0 ≤ 7 ∧ 7 ≤ 7 ∧ 1 ≤ 1) ∧ (7 ≤ 7 ∧ 0 ≤ 1) ∧
    (let s := calm.setAmbient { calm.ambient with scan := { calm.ambient.scan with
       window := some { fresh := false, elapsed := 0, sum := 0, input := 0, offset := 0, zones := [(0, false), (1, true)] } } }
     Sized s ∧ Settled s ∧ (∃ t, exec (.alarmSet hd 1 3) s = .next t) ∧ (frameCell (frame emptyCell)).kind = 0 ∧
      ∃ t, exec (.frameArrival 0 (frame emptyCell)) s = .next t) :=
  ⟨sized_window .., admitted rfl rfl, by decide, by decide, by decide, { sized_calm with }, by apply settled_of <;> decide +kernel,
   ⟨_, ran ..⟩, by decide +kernel, _, ran ..⟩

/-- A level within the limits, at each limit, one outside; an UNUSED sensor; the scan before its last sensor, and at it in both modes. -/
theorem witness_WindowCompletionCompensates :
    (let s := window 20000 true
     Sized s ∧ s.pins.resetLow = false ∧ ∃ wd x, s.ambient.scan.window = some wd ∧ 4800 ≤ wd.elapsed ∧ (wd.zones.map Prod.fst).Nodup ∧
      s.sensor s.ambient.scan.sensor = some x ∧ x.low ≤ wd.sum / 4800 ∧ wd.sum / 4800 ≤ x.high ∧
      s.ambient.scan.sensor < s.ambient.scan.last) ∧
    (let s := window 2000001 false
     ∃ wd x, s.ambient.scan.window = some wd ∧ s.sensor 0 = some x ∧ (wd.sum / 4800 < x.low ∨ x.high < wd.sum / 4800)) ∧
    (let s := scanning.setAmbient { scanning.ambient with sensors := List.replicate 8 none,
                                                          scan := { scanning.ambient.scan with last := 0 } }
     Sized s ∧ s.sensor 0 = none ∧ s.ambient.scan.last ≤ s.ambient.scan.sensor ∧ s.ambient.scan.continuous = true) ∧
    (let s := scanning.setAmbient { scanning.ambient with scan := { scanning.ambient.scan with last := 0, continuous := false } }
     Sized s ∧ s.ambient.scan.last ≤ s.ambient.scan.sensor ∧ s.ambient.scan.continuous = false) :=
  ⟨⟨sized_window .., by decide +kernel, _, _, rfl, by decide +kernel, by decide +kernel, rfl, by decide +kernel⟩, ⟨_, _, rfl, rfl, by decide +kernel⟩,
   ⟨by constructor <;> decide +kernel, by decide +kernel⟩, by constructor <;> decide +kernel, by decide +kernel⟩

/-- Seven cells wait on trunk 0, which leads to the report node: a GOOD sensor with a level outside its limits, and a SUSPECT one with a
level at its upper limit; and a GOOD one within them. -/
theorem witness_WindowCompletionCompensates_notices :
    (∀ x ∈ [(2000001, false), (2000000, true)],
      let s := reporting 7 (window x.1 true)
      let s := s.setAmbient { s.ambient with sensors := s.ambient.sensors.map (Option.map (fun c => { c with suspect := x.2 })) }
      Sized s ∧ (∃ c, s.sensor 0 = some c ∧ c.suspect = x.2 ∧ (x.2 = false → c.high < x.1) ∧ (x.2 = true → c.low ≤ x.1 ∧ x.1 ≤ c.high)) ∧
        s.node.report = some 254 ∧ 254 ≠ s.node.id ∧ (s.port 0).egress.length < 8 ∧ leadsTo (after .scanWindowComplete s) 254 = some 0) ∧
    (scanning.sensor 0).any (fun c => !c.suspect && decide (c.low ≤ 300000) && decide (300000 ≤ c.high)) = true := by
  refine ⟨fun x h => ?_, by decide +kernel⟩
  simp only [List.mem_cons, List.not_mem_nil, or_false] at h
  obtain rfl | rfl := h <;>
    exact ⟨by constructor <;> decide +kernel, ⟨_, rfl, by decide +kernel⟩, by decide +kernel⟩

/-- Group 0 WAKING for a claim; ON; in FAULT with AMP_FAULT under each mode, and with NO_READY; and in settled states WAKING, ON with READY
low, and OFF with READY high. -/
theorem witness_AmpInputsMoveTheGroup :
    (let s := (demanded .waking).modAmp 0 (fun a => { a with demand := true, wakeTimer := some 1 })
     Sized s ∧ s.pins.resetLow = false ∧ (s.amp 0).readyIn ≠ true ∧ (s.amp 0).state = .waking ∧ hasDemand s 0 = true ∧
      (s.amp 0).demand = true ∧ ClaimInv s) ∧
    (Sized (ampIn .on none) ∧ ((ampIn .on none).amp 0).faultIn = false ∧ ((ampIn .on none).amp 0).state ≠ .fault) ∧
    (let s : Bool → State := fun b => (ampIn .fault (some .ampFault)).modAmp 0 (fun a => { a with faultIn := true, auto := b })
     Sized (s true) ∧ Sized (s false) ∧ ((s true).amp 0).faultIn = true ∧ ((s true).amp 0).reason = some .ampFault ∧
      ((s true).amp 0).state = .fault ∧ ((s true).amp 0).auto = true ∧ ((s true).amp 0).readyIn = false ∧
      ((s false).amp 0).auto = false) ∧
    (Sized (ampIn .waking none) ∧ ((ampIn .waking none).amp 0).state = .waking ∧ ((ampIn .waking none).amp 0).wakeTimer = some 1 ∧ 1 ≤ 1) ∧
    (let s := reporting 7 (ampIn .waking none)
     Sized s ∧ (s.amp 0).state = .waking ∧ (s.amp 0).wakeTimer = some 1 ∧ (s.amp 0).faultIn = false ∧ s.node.report = some 254 ∧
      254 ≠ s.node.id ∧ leadsTo (after (.wakeTimerExpiry 0) s) 254 = some 0 ∧ (s.port 0).egress.length < 8) ∧
    (let s := spare (fun a => { a with state := .waking, wakeTimer := some 1 })
     Sized s ∧ Settled s ∧ (s.amp 0).state = .waking ∧ (s.amp 0).demand = false ∧ (s.amp 0).readyIn ≠ true) ∧
    (let s := spare (fun a => { a with state := .on })
     Sized s ∧ Settled s ∧ (s.amp 0).state ≠ .waking ∧ (s.amp 0).readyIn ≠ true) ∧
    (let s := spare (fun a => { a with readyIn := true })
     Sized s ∧ Settled s ∧ (s.amp 0).readyIn ≠ false) :=
  ⟨⟨{ sized_demanded .waking with amps := (List.length_modify ..).trans (sized_demanded .waking).amps }, by decide +kernel,
    by decide +kernel, by decide +kernel, by decide +kernel, by decide +kernel, by unfold ClaimInv ListRules; decide +kernel⟩,
   ⟨sized_ampIn .., by decide +kernel⟩, ⟨by constructor <;> decide +kernel, by constructor <;> decide +kernel, by decide +kernel⟩,
   ⟨sized_ampIn .., by decide +kernel⟩, ⟨by constructor <;> decide +kernel, by decide +kernel⟩,
   ⟨sized_spare _, by apply settled_of <;> decide +kernel, by decide +kernel⟩,
   ⟨sized_spare _, by apply settled_of <;> decide +kernel, by decide +kernel⟩,
   sized_spare _, by apply settled_of <;> decide +kernel, by decide +kernel⟩

/-- A settled state with a WAKING claim in a WAKING group: its READY rises, its FAULT rises, and its wake limit expires; and the state in
which its FAULT falls under the mode AUTO. -/
theorem witness_AmpInputsMoveTheGroup_claims :
    (Sized waking ∧ waking.pins.resetLow = false ∧ Settled waking ∧ ClaimInv waking ∧ TalkInv waking ∧ AmpInv waking ∧
      (waking.claim 0).any (fun c => c.state == .waking) = true ∧ headOf waking 0 = some 0 ∧
      ((waking.amp 0).readyIn, (waking.amp 0).faultIn, (waking.amp 0).wakeTimer) = (false, false, some 1)) ∧
    (let s := spare (fun a => { a with state := .fault, reason := some .ampFault, faultIn := true, auto := true })
     Sized s ∧ Settled s ∧ ClaimInv s ∧ TalkInv s ∧ AmpInv s ∧ (s.amp 0).faultIn = true) :=
  ⟨⟨sized_waking, rfl, settled_waking, claims_of_alarms.2.1, talk_of_alarms.2.1, by unfold AmpInv AmpRules; decide +kernel, by decide +kernel⟩,
   sized_spare _, by apply settled_of <;> decide +kernel, by unfold ClaimInv ListRules; decide +kernel,
   by unfold TalkInv GroupRules; refine ⟨?_, ?_, ?_⟩ <;> decide +kernel, by unfold AmpInv AmpRules; decide +kernel, by decide +kernel⟩

/-- Demand appears in each state of the group, with READY low and high; and demand that stands, present and absent. -/
theorem witness_DemandWakesTheGroup :
    (∀ (st : AmpState) (b : Bool), let s := (demanded st).modAmp 0 (fun a => { a with readyIn := b })
      Sized s ∧ 0 < 16 ∧ hasDemand s 0 = true ∧ (s.amp 0).demand = false ∧ (s.amp 0).readyIn = b ∧ (s.amp 0).state = st) ∧
    (hasDemand waking 0 = (waking.amp 0).demand ∧ (waking.amp 0).demand = true) ∧ hasDemand calm 0 = (calm.amp 0).demand := by
  refine ⟨fun st b => ⟨{ sized_demanded st with amps := (List.length_modify ..).trans (sized_demanded st).amps }, by decide, ?_⟩,
    by decide +kernel⟩
  cases st <;> cases b <;> decide +kernel

/-- Demand that is lost, in each state of the group, and a settled state that a PAGE-CLOSE leaves. -/
theorem witness_DemandWakesTheGroup_lost :
    (∀ st : AmpState, let s := calm.modAmp 0 (fun a => { a with state := st, demand := true })
      Sized s ∧ hasDemand s 0 = false ∧ (s.amp 0).demand = true ∧ (s.amp 0).state = st) ∧
    (Sized live ∧ Settled live ∧ ∃ t, exec (.pageClose hd 0) live = .next t) ∧
    (frameCell (frame emptyCell)).kind = 0 ∧ ∃ t, exec (.frameArrival 0 (frame emptyCell)) live = .next t := by
  refine ⟨fun st => ⟨{ sized_calm with amps := (List.length_modify ..).trans sized_calm.amps }, ?_⟩,
    ⟨sized_live, settled_live, _, ran ..⟩, by decide +kernel, _, ran ..⟩
  cases st <;> decide +kernel

/-- The window of an OFF group, and of a QUIET one that is demoted and has a residency, is full with this frame period; the residency of
an ON, a QUIET and a STANDBY group reaches its threshold; a group demoted and one not. -/
theorem witness_IdleTimersDeepenTheGroup :
    (let s : AmpState → State := fun st => w.modAmp 15 (fun a =>
        { a with state := st, residency := if st = .quiet then some 480000 else none, early := 3, windowTimer := some 2879999 })
     ∀ st ∈ [AmpState.off, .quiet], Sized (s st) ∧ (s st).pins.resetLow = false ∧ (s st).power.policy ≤ 3 ∧
      ((s st).amp 15).windowTimer = some 2879999 ∧ ((s st).amp 15).window * 48000 ≤ 2879999 + 1 ∧ ((s st).amp 15).state = st ∧
      ((s st).amp 15).windowCounted = false) ∧
    (let s : AmpState → Nat → State := fun st r => w.modAmp 15 (fun a => { a with state := st, residency := some r, offAfter := 600 })
     ∀ x ∈ [(AmpState.on, 10), (.quiet, 300), (.standby, 600)], Sized (s x.1 (x.2 * 48000 - 1)) ∧
      ((s x.1 (x.2 * 48000 - 1)).amp 15).residency = some (x.2 * 48000 - 1) ∧ ((s x.1 (x.2 * 48000 - 1)).amp 15).residencyCounted = false ∧ x.2 ≠ 0 ∧ x.2 * 48000 - 1 + 1 = x.2 * 48000 ∧
      x.2 ∈ [((s x.1 (x.2 * 48000 - 1)).amp 15).quietAfter, ((s x.1 (x.2 * 48000 - 1)).amp 15).standbyAfter,
        ((s x.1 (x.2 * 48000 - 1)).amp 15).offAfter]) ∧
    (let a := { ((ampIn .on none).amp 0) with early := 3, residency := some 480000 }
     a.threshold ≠ 0 ∧ a.threshold ≤ a.early ∧ { a with early := 2 }.early < a.threshold) :=
  ⟨fun st h => ⟨{ sized_w with amps := (List.length_modify ..).trans sized_w.amps }, by revert st; decide +kernel⟩,
   fun x h => ⟨{ sized_w with amps := (List.length_modify ..).trans sized_w.amps }, by revert x; decide +kernel⟩, by decide +kernel⟩

/-- FAULT-CLEAR of group 15 and of 16; a group ON, one in FAULT with its input high, and one with it low. -/
theorem witness_AmpRequestsSetAndClear : Sized (ampIn .fault (some .noReady)) ∧ Admitted hd .config (ampIn .fault (some .noReady)) ∧
    Admitted hd .bridge (ampIn .fault (some .noReady)) ∧ Admitted hd .operator (ampIn .fault (some .noReady)) ∧ 15 < 16 ∧ 1 < 2 ∧
    ((ampIn .fault (some .noReady)).amp 15).state ≠ .fault ∧
    (let s := (ampIn .fault (some .ampFault)).modAmp 0 (fun a => { a with faultIn := true })
     Sized s ∧ Admitted hd .operator s ∧ (s.amp 0).state = .fault ∧ (s.amp 0).faultIn = true) ∧
    ((ampIn .fault (some .noReady)).amp 0).state = .fault ∧ ((ampIn .fault (some .noReady)).amp 0).faultIn = false ∧
    ((ampIn .fault (some .noReady)).amp 0).readyIn = false ∧
    (let s := reporting 7 (ampIn .fault (some .noReady))
     Sized s ∧ Admitted hd .operator s ∧ (s.amp 0).state = .fault ∧ (s.amp 0).faultIn = false ∧ s.node.report = some 254 ∧
      (s.port 0).egress.length < 8 ∧ leadsTo (after (.faultClear hd 0) s) 254 = some 0) :=
  ⟨sized_ampIn .., admitted rfl rfl, admitted rfl rfl, admitted rfl rfl, by decide, by decide, by decide +kernel,
   ⟨by constructor <;> decide +kernel, admitted rfl rfl, by decide +kernel⟩, by decide +kernel, by decide +kernel, by decide +kernel,
   by constructor <;> decide +kernel, admitted rfl rfl, by decide +kernel⟩

/-- Settled states in which a LOAD-AMP with mode AUTO finds group 0 in FAULT with its input low and READY low or high, the report node
over trunk 0; one in which the group is QUIET and demoted; and one in which it is ON with a residency of 10 s. -/
theorem witness_AmpRequestsSetAndClear_load :
    (∀ b : Bool, let s := reporting 7 (spare (fun a => { a with state := .fault, reason := some .ampFault, readyIn := b }))
      Sized s ∧ Settled s ∧ Admitted hd .config s ∧ (s.amp 0).state = .fault ∧ (s.amp 0).reason = some .ampFault ∧
        (s.amp 0).faultIn = false ∧ (s.amp 0).readyIn = b ∧ s.node.report = some 254 ∧ (s.port 0).egress.length < 8 ∧
        leadsTo (after (.loadAmp hd 0 0 1 1 1 1 1 1 1) s) 254 = some 0) ∧
    (let s := spare (fun a => { a with state := .quiet, residency := some 0, early := 3, windowTimer := some 5 })
     Sized s ∧ Settled s ∧ Admitted hd .config s ∧ (s.amp 0).state = .quiet ∧ (s.amp 0).demand = false ∧ min 7 3 ≠ 0 ∧
      min 7 3 ≤ (s.amp 0).early ∧ ¬ min 7 4 ≤ (s.amp 0).early) ∧
    (let s := spare (fun a => { a with state := .on, residency := some 480000 })
     Sized s ∧ Settled s ∧ (s.amp 0).state ≠ .fault ∧ (judgeIdle s.power.policy (s.amp 0)).state = .quiet) :=
  ⟨fun b => ⟨by cases b <;> constructor <;> decide +kernel, by cases b <;> apply settled_of <;> decide +kernel, admitted rfl rfl,
     by cases b <;> decide +kernel⟩,
   ⟨sized_spare _, by apply settled_of <;> decide +kernel, admitted rfl rfl, by decide +kernel⟩,
   sized_spare _, by apply settled_of <;> decide +kernel, by decide +kernel⟩

/-- Timers that are stopped, timers one frame period before their last, and timers that have had their count. -/
theorem witness_StoppedTimersHaveNoExpiry :
    (w.pins.resetLow = false ∧ (w.port 5).loss = none ∧ (∀ v < 8, (w.voice v).holder = .free) ∧
      ((voice (.signal .fire) 0 0 1 0 .ended 0 w).voice 7).phase = .ended ∧ (∀ c ∈ w.claim 47, ∀ n, c.timer = some n → 2 ≤ n) ∧
      (w.group 7).members = [] ∧ w.showCtl.autoFollow = none ∧ w.ambient.scan.window = none ∧ (w.amp 15).state ≠ .waking ∧
      w.alarm.contactClosed = false ∧ w.alarm.contactCount + 1 < 960) ∧
    (((u.modPort 0 (fun q => { q with loss := some 62 })).port 0).loss = some 62 ∧ 62 + 1 < 16 * ((u.port 0).lt + 1)) ∧
    ((voice (.signal .fire) 0 0 1 0 .on 1 w).voice 7).timer ≠ 0 ∧
    (let s := heard { claimOf .live 3 0 with timer := some 2, watch := 47998 }
     (s.claim 0).map (fun c => (c.timer, c.watch)) = some (some 2, 47998) ∧ 2 ≤ 2 ∧ 47998 + 1 < 48000) ∧
    (((talk 1).group 0).members[1]?.bind (fun m : Member => m.timer)) = some 48000 ∧
    ((ampIn .waking none).modAmp 0 (fun a => { a with wakeTimer := some 2, windowTimer := some 2879998, residency := some 1 }) |>.amp 0).windowTimer =
      some 2879998 ∧ 2879998 + 1 < ((ampIn .waking none).amp 0).window * 48000 ∧
    ((after (.fullWindow 15) (w.modAmp 15 (fun a => { a with windowTimer := some 2879999 }))).amp 15).windowCounted = true ∧
    ((after (.idleResidencyThreshold 15) (w.modAmp 15 (fun a => { a with state := .on, residency := some 479999 }))).amp 15).residencyCounted =
      true ∧ (after .autoFollowExpiry (following true)).showCtl.autoCounted = true := by
  refine ⟨⟨by decide +kernel, by decide +kernel, by decide +kernel, by decide +kernel, ?_, by decide +kernel⟩, by decide +kernel⟩
  intro c h
  exact absurd h (by rw [show w.claim 47 = none from by decide +kernel]; exact nofun)

/-- States that are not the reset state meet the invariants, and take a step. -/
theorem witness_StepKeepsTheInvariants :
    (Sized u ∧ LinkInv u ∧ ∃ t, step u = .next t) ∧ (Sized show9 ∧ TableInv show9 ∧ ∃ t, step show9 = .next t) ∧
    (Sized w ∧ TableInv w ∧ BusInv w ∧ ∃ t, step w = .next t) ∧ (Sized (talk 1) ∧ TalkInv (talk 1) ∧ ∃ t, step (talk 1) = .next t) ∧
    (Sized cl ∧ ClaimInv cl ∧ ∃ t, step cl = .next t) ∧ (Sized show9 ∧ ShowInv show9 ∧ ∃ t, step show9 = .next t) ∧
    (Sized (ampIn .waking none) ∧ AmpInv (ampIn .waking none) ∧ ∃ t, step (ampIn .waking none) = .next t) ∧
    (Sized live ∧ TalkInv live ∧ ClaimInv live ∧ AmpInv live ∧ Settled live ∧ ∃ t, step live = .next t) :=
  ⟨⟨sized_u, by unfold LinkInv PortRules; decide +kernel, _, rfl⟩,
   ⟨sized_show9, by unfold TableInv CadenceRules SceneRules CurveRules; decide +kernel, _, rfl⟩,
   ⟨sized_w, by unfold TableInv CadenceRules SceneRules CurveRules; decide +kernel,
    by unfold BusInv BusRules XPointRules inRange; decide +kernel, _, rfl⟩,
   ⟨sized_talk 1, by unfold TalkInv GroupRules; decide +kernel, _, rfl⟩,
   ⟨sized_cl, by unfold ClaimInv ListRules; decide +kernel, _, rfl⟩, ⟨sized_show9, by unfold ShowInv LineRules; decide +kernel, _, rfl⟩,
   ⟨sized_ampIn .., by unfold AmpInv AmpRules; decide +kernel, _, rfl⟩,
   sized_live, talk_of_tests.2, claims_of_tests.2.1, by unfold AmpInv AmpRules; decide +kernel, settled_live, _, rfl⟩

theorem witness_OnlyHardwareResetStartsTheFallbackFeed : (∃ t, exec .mixPeriod w = .next t) ∧ (∀ b, Instr.mixPeriod ≠ .hardwareReset b) ∧
    ∃ t, exec (.resetNodeAll hd) w = .next t := ⟨⟨_, ran ..⟩, nofun, _, ran ..⟩

/-! Single steps with the spec's worked figures -/

/-- Section 0.6.4 and R40: ties go toward plus infinity; a product of two full coefficients is capped (section 4.5). -/
theorem test_rounding : round14 (-24576) = -1 ∧ round14 (-25000) = -2 ∧ round14 24576 = 2 ∧ product 4096 16384 = 4096 ∧
    product 32767 32767 = 32767 := by decide +kernel

/-- Bus 12 of section 3.9.1: zone 5 hears claim 0, whose source is stream 7. -/
def bus12 (voice : Sample) : State :=
  let s := cl.setStreams (((cl.streams.set 3 (inputStream 0 1200000)).set 4 (inputStream 1 (-400000))).set 7 (inputStream 2 voice))
  let s := withBus 12 (fun b => { b with role := .zone, zone := some 5,
                                         live := [entryOf 3 8192 8192 .ramp, entryOf 4 16384 16384 .ramp] }) s
  let s := withZone 5 { zoneOf .publicRoom 12 with sensor := none, amp := none, mode := .voice, kp := 4096, kpTarget := 4096,
                                                   kv := 20000, kvTarget := 20000 } s
  s.setClaims { table := s.claims.table.set 0 (some { claimOf .live 3 7 with targets := [(5, .audible)] }),
                lists := List.replicate 5 [] ++ [[0]] ++ List.replicate 90 [] }

/-- Section 3.9.1, the ordinary and the saturating case. -/
theorem test_mixPeriod_composes : (((after .mixPeriod (bus12 2500000)).bus 12).output, ((after .mixPeriod (bus12 2500000)).bus 12).clips) =
    (3101758, 0) := by decide +kernel
theorem test_mixPeriod_saturates : (((after .mixPeriod (bus12 7000000)).bus 12).output, ((after .mixPeriod (bus12 7000000)).bus 12).clips) =
    (8388607, 1) := by decide +kernel

/-- Tables 3-4 (period 3) and 3-5 (period 4): the retired entry is removed at 0, the pending coefficient is taken. -/
theorem test_ramp_and_zeroCross :
    (let s := withBus 2 (fun b => { b with live := [{ entryOf 3 10000 16384 .ramp with step := some 5000 },
        { entryOf 4 1000 0 .ramp with step := some 1000, retiring := true }] }) w
     let s := withBus 3 (fun b => { b with live := [{ entryOf 5 8000 12000 .zeroCross with pending := some 12000, wait := 3, prev := 40 }] })
       (withStream 5 (inputStream 0 (-15)) s)
     let t := after .mixPeriod s
     ((t.bus 2).live.map (·.cur), (t.bus 3).live.map (fun x => (x.cur, x.pending, x.wait, x.prev)))) =
      ([15000], [(12000, none, 0, -15)]) := by decide +kernel

/-- Section 3.9.5: a talker's own term is left out. -/
theorem test_mixMinus :
    (let s := (w.setStreams ((w.streams.set 0 (inputStream 0 1000000)).set 2 (inputStream 1 (-600000)))).modGroup 0 (fun _ =>
        { limit := 4, talkers := [0, 2], members := [memberOf 70 0 4 false .talking, memberOf 71 1 5 false .idle,
            { memberOf 72 2 6 false .talking with gain := 8192 }] })
     let t := after .mixPeriod s
     ((t.bus 4).output, (t.bus 5).output, (t.bus 6).output)) = (-300000, 700000, 1000000) := by decide +kernel

/-- Table 4-6, zone 30: steps 0, 1, 3, 4 and 5. -/
theorem test_layerTargets :
    (let n := { zoneOf .cabin 20 with sensor := none }
     let f := { n with applied := some .fire }
     (layerTargets w n .normal none, layerTargets w n .voice (some 3), layerTargets w { n with cabinLevel := 12 } .voice (some 3),
      layerTargets w f .alarm none, layerTargets w f .alarmVoice (some 7))) =
      ((2062, 0, 0), (516, 2062, 0), (1453, 5813, 0), (0, 0, 16384), (0, 16384, 4096)) := by decide +kernel

/-- The chime of section 6.8.3 as cadence 5, played by voice 7. -/
def chime5 (step osc : Nat) (ph : StepPhase) (timer : Nat) : State :=
  let s := (voice (.claim 0) 5 step 1 0 ph timer w).modVoice 7 (fun x => { x with osc := osc })
  let c : Cadence := { repeats := 1, steps := [⟨880, 50, 8192, 300, 0, 1⟩, ⟨660, 50, 8192, 600, 200, 1⟩] }
  s.setTone { s.tone with cadences := s.tone.cadences.set 5 c }

/-- Table 6-5: frame periods 27, 28 and 54 of an 880 Hz tone; the phase of 660 Hz rises by 230,687 (Table 6-4). -/
theorem test_toneVoiceSample :
    ([chime5 0 8304714 .on 9, chime5 0 8612296 .on 9, chime5 0 16609428 .on 9, chime5 1 0 .on 9, chime5 1 7 .off 9].map (fun s =>
      ((((after .toneVoiceSample s).voice 7).sample, ((after .toneVoiceSample s).voice 7).osc)))) =
      [(4194303, 8612296), (-4194303, 8919878), (-4194303, 139794), (4194303, 230687), (0, 0)] := by decide +kernel

/-- Section 6.8.3: step 0 passes to step 1 with its timer at 28,800, and step 1 to its OFF phase at 9,600. -/
theorem test_stepTimerExpiry :
    ([chime5 0 9 .on 0, chime5 1 9 .on 0].map (fun s =>
      let x := (after (.stepTimerExpiry 7) s).voice 7
      (x.step, x.phase, x.timer))) = [(1, .on, 28800), (1, .off, 9600)] := by decide +kernel

/-- Section 6.8.1: 25,000 Hz is clamped to 20,000 and a duty of 100 to 99. -/
theorem test_loadCadence_clamps : ((after (.loadCadence hd 31 true 1 [⟨25000, 100, 65535, 0, 0, 0⟩]) w).cadence 31) =
    { repeats := 1, steps := [⟨20000, 99, 16384, 1, 0, 1⟩] } := by decide +kernel

/-- Table 1-7: a bad frame is counted on an UP trunk, and sets the good count of a SEEKING one to 0 uncounted. -/
theorem test_badFrame :
    ([after (.frameArrival 0 []) u, after (.frameArrival 0 [167, 60]) (seeking 0 3 u)].map (fun t =>
      ((t.port 0).state, (t.port 0).good, (t.port 0).crcErrors))) = [(.up, 8, 1), (.seeking, 0, 0)] := by decide +kernel

/-- The streams of Table 1-6 with their samples of frame period 1,000; port 0 has one frame period to its loss length. -/
def table1_6 : State :=
  (u.modPort 0 (fun q => { q with loss := some 63 })).setStreams ((u.streams.set 20 { state := .primary, primary := some (.slot 0 5), backup := some (1, 5), sample := 52000 }).set 21
    { state := .primary, primary := some (.slot 0 6), backup := none, sample := -3100 })

/-- Table 1-7: frame period 1,064. -/
theorem test_lossTimerExpiry :
    (let t := after (.lossTimerExpiry 0) table1_6
     ((t.port 0).state, (t.port 0).good, frameReference t, (t.stream 20).state, (t.stream 20).sample, (t.stream 21).state,
      (t.stream 21).sample)) = (.down, 0, some 1, .backup, 52000, .absent, 0) := by decide +kernel

/-- Table 1-7: a good frame on an UP trunk writes slot 5 to the stream that has selected it. -/
theorem test_goodFrame_writes_slots :
    ((after (.frameArrival 1 (frame emptyCell)) (after (.lossTimerExpiry 0) table1_6)).stream 20).sample = 51870 := by
  have h : frameGood (frame emptyCell) = true := frame_good _
  simp only [after, exec, execFrameArrival, runFrameArrival, h]
  decide +kernel

/-- Section 2.12, steps 1 to 4 and 7: the authority classes of nodes 41 and 200, by the status byte of the REPLY. -/
theorem test_commissioning :
    (let s := auth [⟨200, true, true, false⟩] u
     let at41 : ReqHdr := { port := 3, src := 41, tag := 1, bcast := false }
     let at200 : ReqHdr := { port := 0, src := 200, tag := 1, bcast := false }
     ((after (.loadRoute at41 41 (some 3)) u).node.routes[41]?,
      ((after (.read at41 3 3 0) s).port 3).egress.map (fun c => (c.kind.toNat, c.status.toNat)),
      (after (.loadAuth at200 41 4) s).node.auth,
      ((after (.loadAuth at200 41 4) s).port 0).egress.map (fun c => (c.dst.toNat, c.status.toNat)))) =
      (some (some 3), [(128, 2)], [⟨200, true, true, false⟩, ⟨41, false, false, true⟩], [(200, 0)]) := by decide +kernel

/-- R35: an UNUSED bus with a clip count and a destination, and an UNMAPPED stream, are returned with zeros. -/
theorem test_read_unused :
    ((readRecord (withBus 9 (fun b => { b with clips := 5, dests := [.localOut 1] }) u) 5 9).map List.flatten,
     (readRecord u 4 127).map List.flatten) = (some (List.replicate 12 0), some (List.replicate 10 0)) := by decide +kernel

/-- R35: a cadence without steps that has a repeat count, and a talk group without members, are returned with zeros; R39, R169: the
level of status line 0 is 0 while HIGH and 1 while LOW. -/
theorem test_read_empty :
    (let s := u.setTone { u.tone with cadences := u.tone.cadences.set 31 { repeats := 5, steps := [] } }
     (readRecord s 10 31, readRecord u 13 0)) = (some [[0], [0], [0]], some [[0], [0], [0]]) ∧
    [true, false].map (fun b => (readRecord (u.modLine 0 (fun l => { l with level := b })) 17 4).map (fun f => f.getD 3 [])) =
      [some [0], some [1]] := by decide +kernel

/-- Table 2-9: a cell that meets eight in the queue is counted; a departure takes the oldest. -/
theorem test_fullQueue :
    (let s := u.modPort 3 (fun q => { q with egress := (List.range 8).map (fun i => { emptyCell with tag := byteOf i }) })
     let t := queueCell 3 emptyCell s
     (((t.port 3).egress.length, (t.port 3).drops), ((after (.portDeparture 3) t).port 3).egress.map (fun c => c.tag.toNat))) =
      ((8, 1), [1, 2, 3, 4, 5, 6, 7]) := by decide +kernel

/-- R1, Table 1-1: a departure carries the markers, the identity and 112 bytes. -/
theorem test_portDeparture :
    (let b := ((after (.portDeparture 5) u).port 5).sent
     (b.length, b.take 3)) = (112, [167#8, 60#8, 0#8]) := by decide +kernel

/-- R20: straps of 255 give identity 254, and the fallback feed begins (R135). -/
theorem test_hardwareReset : ((after (.hardwareReset 255) cl).node.id, (after (.hardwareReset 255) cl).alarm.fallback) = (254, true) := by
  decide +kernel

/-- R45: with 32,768 positions taken a line of 512 may not grow by 1, and may shrink. -/
theorem test_loadOutput_pool :
    ((((after (.loadOutput hd 0 1 513 []) pool).port 2).egress.map (fun c => c.status.toNat)),
     ((after (.loadOutput hd 0 1 511 []) pool).bus 0).line.length) = ([7], 511) := by decide +kernel

/-- Section 7.9, E1 and E2 in a THEATRE zone: the show-stop latch, the held flag, the layer and the voice of GENERAL. -/
theorem test_alarmSet :
    (let t := after (.alarmSet hd 1 3) w
     ((t.fireZone 1).resolved, t.showCtl.showStop, (t.voice 0).holder) = (some .general, true, .signal .general) ∧
     (t.zone 1).map (fun n => (n.held, n.mode, n.kpTarget, n.kaTarget)) = some (true, .alarm, 0, 16384)) := by decide +kernel

/-- Table 7-1, R127: closing the contact latches it; it cannot be cleared while it is CLOSED (R131). -/
theorem test_contact :
    (let t := after (.contactDebounceComplete true) (w.setAlarm { w.alarm with contactCount := 959 })
     (t.alarm.contactLatch, (t.fireZone 16).resolved, ((after (.alarmClearContact hd) t).port 2).egress.map (fun c => c.status.toNat))) =
      (true, some .general, [4]) := by decide +kernel

/-- Section 5.7, E5: the crew call displaces claim 0, is LIVE at once with 5,760,000 frame periods, and claim 0 is SUSPENDED. -/
theorem test_pageOpen_preempts :
    (let s := withZone 0 { zoneOf .publicRoom 0 with amp := none } cl
     let t := after (.pageOpen hd 6 32 (.zones 1) 0 false 1 none 120) s
     (t.claimList 0, (t.claim 0).map (·.state)) = ([1, 0], some .suspended) ∧
     (t.claim 1).map (fun c => (c.state, c.timer, c.targets)) = some (.live, some 5760000, [(0, .audible)])) := by decide +kernel

/-- Section 5.7, E6: the claim that was preempted resumes; its notice comes before that of the ending and before the REPLY. -/
theorem test_pageClose_resumes :
    (let s := withZone 0 { zoneOf .publicRoom 0 with amp := none } (w.setClaims
        { table := (w.claims.table.set 0 (some (claimOf .suspended 3 0))).set 1 (some { claimOf .live 6 1 with rank := 1 }),
          lists := w.claims.lists.set 0 [1, 0] })
     let t := after (.pageClose hd 1) s
     ((t.claim 0).map (·.state), t.claim 1,
      (t.port 2).egress.map (fun c => (c.kind.toNat, (c.payload.take 4).map (fun b => b.toNat))))) =
      (some .live, none, [(129, [0, 3, 255, 1]), (129, [1, 5, 0, 0]), (128, [0, 0, 0, 0])]) := by decide +kernel

/-- Table 5-1: a chime cut short by a preemption, and by the end of its claim, sets the chime-skipped flag, which the notice reports. -/
theorem test_chime_cut_short :
    (let t := after (.pageOpen hd 6 1 (.zones 1) 0 false 0 none 0) chime
     ((t.claim 0).map (fun c => (c.state, c.chimeSkipped, c.voice)), (t.voice 7).holder)) = (some (.suspended, true, none), .free) ∧
    [after (.pageOpen hd 6 1 (.zones 1) 0 false 0 none 0) chime, after (.pageClose hd 0) chime].map (fun t =>
      ((t.port 2).egress.headD emptyCell).payload.take 5) = [[0, 4, 255, 0, 1], [0, 5, 0, 0, 1]] := by decide +kernel

/-- Section 5.7, E11: a claim that outranks no entry of a full list is answered REFUSED-FULL. -/
theorem test_pageOpen_full :
    ((after (.pageOpen hd 7 0 (.zones 1) 0 true 0 none 0) fullList).port 2).egress.map (fun c => c.status.toNat) = [6] := by
  decide +kernel

/-- Table 8-4, E2 to E4: group 0 with stations 70 to 73, where 71 and 72 talk. -/
def stage : State := w.modGroup 0 (fun _ =>
  { limit := 2, talkers := [1, 2],
    members := [{ memberOf 70 17 50 true .idle with latching := false }, { memberOf 71 18 51 false .talking with latching := false, timer := none },
      { memberOf 72 19 52 false .talking with timeout := 30, timer := some 1440000 },
      { memberOf 73 20 53 false .idle with latching := false }] })

theorem test_talkKeyOn :
    (let e3 := after (.talkKeyOn { hd with src := 73 } 0) stage
     let e4 := after (.talkKeyOn { hd with src := 70 } 0) stage
     (((e3.group 0).talkers, (e3.port 2).egress.map (fun c => c.status.toNat)),
      (e4.group 0).talkers, (e4.group 0).members.map (fun m => (m.state, m.timer)))) =
      (([1, 2], [5]), [1, 0], [(.talking, none), (.talking, none), (.idle, none), (.idle, none)]) := by decide +kernel

/-- Table 8-4, E10: the talk timer of an IDLE member has no expiry; that of a TALKING member releases it. -/
theorem test_talkTimerExpiry :
    (let s := stage.modGroup 0 (fun g => { g with members := g.members.map (fun m => { m with timer := m.timer.map (fun _ => 1) }) })
     ((after (.talkTimerExpiry 0 2) s).group 0).talkers = [1] ∧ after (.talkTimerExpiry 0 3) stage = stage ∧
      after (.talkTimerExpiry 0 2) stage = stage) := by decide +kernel

/-- Table 9-3, GOTO 7: steps 4 and 2, FADING, the auto-follow timer at 240,000, and the cue-mark latch of cue 7. -/
theorem test_goto :
    (let t := after (.goto hd 7) show9
     ((t.bus 1).live.map (fun x => (x.stream, x.cur, x.target, x.step)), t.showCtl.engine, t.showCtl.current, t.showCtl.autoFollow,
      t.showCtl.cueLatch)) =
      ([(60, 0, 16384, some 4), (61, 0, 8192, some 2)], .fading, some 7, some 240000, true) := by decide +kernel

/-- Table 9-3, GO: bus 1 in place of bus 30, from 8,000 and 4,000 into scene 4 in 50 ms. -/
theorem test_applyScene :
    (let s := withBus 1 (fun b => { b with live := [{ entryOf 60 8000 16384 .ramp with step := some 4 },
        { entryOf 61 4000 8192 .ramp with step := some 2 }] }) (show9.setShow { show9.showCtl with
          scenes := show9.showCtl.scenes.set 4 { scope := 2, entries := [⟨1, 60, 4096, .ramp⟩, ⟨1, 62, 12000, .cut⟩] } })
     ((after (.applyScene hd 4 50) s).bus 1).live.map (fun x => (x.stream, x.cur, x.target, x.step, x.retiring))) =
      [(60, 16384, 4096, some 6, false), (61, 8192, 0, some 4, true), (62, 12000, 12000, none, false)] := by decide +kernel

/-- R166, R170: a HOLD gate line that rises; a line of source ON and width LATCH lights at load (section 9.10). -/
theorem test_lines :
    ((after (.gateDebounceComplete 0 true) (gated .hold false)).showCtl.hold, (after (.loadLineStatus hd 5 1 2 0) w).line 1) =
      (true, { source := .on, width := .latch, stretch := 1, level := true, timer := 0, latched := true, rose := false }) := by
  decide +kernel

/-- R170: a clear that falls together with the rise of a LATCH line's source leaves the line HIGH, one in a later frame period brings it
LOW. -/
theorem test_clear_and_rise :
    (let l (rose : Bool) : Line :=
       { source := .alarmAny, width := .latch, stretch := 1, level := true, timer := 0, latched := true, rose := rose }
     let s (rose : Bool) := after (.showClearLines hd) (w.modLine 1 (fun _ => l rose))
     (((s true).line 1).level, ((s true).line 1).latched, ((s false).line 1).level, ((s false).line 1).latched)) =
      (true, true, false, false) := by decide +kernel

/-- R165: with a setting of 1 ms an edge waits for 48 frame periods of a differing input. -/
theorem test_gate_debounce :
    (let s (count : Nat) := after (.gateDebounceComplete 0 true)
       (w.modGate 0 (fun g => { g with setting := 1, mode := .stop, count := count }))
     (((s 46).gate 0).level, ((s 46).gate 0).input, ((s 46).gate 0).count, (s 46).showCtl.showStop,
      ((s 47).gate 0).level, ((s 47).gate 0).count, (s 47).showCtl.showStop)) = (false, true, 46, false, true, 0, true) := by
  decide +kernel

/-- Table 10-2, W1 and W5: the current rises to 16,640 toward 20,000; a level of 2,500,000 makes the sensor SUSPECT. -/
theorem test_scanWindowComplete :
    (((after .scanWindowComplete (window 300000 false)).zone 0).map (fun n => (n.compCur, n.compTarget)),
     ((after .scanWindowComplete (window 2500000 false)).zone 0).map (fun n => (n.compCur, n.compTarget)),
     ((after .scanWindowComplete (window 2500000 false)).sensor 0).map (fun x => (x.suspect, x.last))) =
      (some (16640, 20000), some (16384, 16384), some (true, some 2500000)) := by decide +kernel

/-- Section 10.5: samples of 300,001 and −300,000 add their magnitudes (R178). -/
theorem test_localExchange :
    ([300001#24, (-300000 : BitVec 24)].map (fun b =>
      ((after (.localExchange (List.replicate 8 b)) (w.setAmbient { w.ambient with
        scan := { w.ambient.scan with window := some { fresh := false, elapsed := 7, sum := 1, input := 5, offset := 0, zones := [] } } })).ambient.scan.window.map
          (fun x => (x.elapsed, x.sum))))) = [some (8, 300002), some (8, 300001)] := by decide +kernel

/-- Table 10-2: after a SCAN START in frame period 0 the first sample of the window is that of frame period 1, and W1 has its 4,800 at the
end of frame period 4,800 (R178). -/
theorem test_window_follows_its_beginning :
    (let started := after (.scanStart hd 0 1 1) scanning
     let ins := Instr.localExchange (List.replicate 8 300001#24)
     let period := fun s => match step (after ins s) with
       | .next t => t
       | _ => s
     [period started, period (period started)].map (fun s => s.ambient.scan.window.map (fun x => (x.elapsed, x.sum)))) =
      [some (0, 0), some (1, 300001)] := by decide +kernel

/-- R66, R67, R179: zone 0 leaves the window of sensor 0 when a LOAD gives it no sensor and when it is unloaded, and stays, its mark with
it, when a LOAD leaves its sensor as it is. -/
theorem test_zone_leaves_the_window :
    ([.loadZoneLoad hd 0 0 1 [0] none none none none none none, .loadZoneUnload hd 0,
      .loadZoneLoad hd 0 0 1 [0] none none none none (some 0) none].map (fun c =>
        (after c (window 300000 true)).ambient.scan.window.map Window.zones)) = [some [], some [], some [(0, true)]] := by decide +kernel

/-- Table 11-3, t = 140, 210, 380: the group deepens at 480,000; a wake within a window is counted; a full window ends demotion. -/
theorem test_amp_states :
    (let quiet := { ((ampIn .on none).amp 0) with residency := some 480000 }
     let woken := (updateDemand 0 ((demanded .standby).modAmp 0 (fun a => { a with earlyFlag := true }))).amp 0
     let rested := (after (.fullWindow 0) ((ampIn .quiet none).modAmp 0 (fun a =>
       { a with early := 2, threshold := 2, standbyAfter := 60, residency := some 3360000, windowTimer := some 2879999 }))).amp 0
     ((judgeIdle 2 quiet).state, (woken.state, woken.early, woken.wakeTimer),
      (rested.state, rested.early, rested.earlyFlag, rested.windowTimer))) =
      (.quiet, (.waking, 1, some 24000), (.standby, 1, true, some 0)) := by decide +kernel

/-- The group that a state's tick leaves. -/
def tickedAmp (s : State) : Amp := match step s with
  | .next t => t.amp 15
  | _ => s.amp 15

/-- R185, R187: the frame period that fills a window, or brings the residency to a threshold, is counted once: the tick behind FULL_WINDOW
leaves the timer of the next window at 0, the tick behind IDLE_RESIDENCY_THRESHOLD the residency at 480,000; the next ticks count. -/
theorem test_counted_once :
    (let s := after (.fullWindow 15) (w.modAmp 15 (fun a => { a with windowTimer := some 2879999 }))
     let r := after (.idleResidencyThreshold 15) (w.modAmp 15 (fun a => { a with state := .on, residency := some 479999, windowTimer := none }))
     ((s.amp 15).windowTimer, (tickedAmp s).windowTimer, (r.amp 15).residency, (r.amp 15).state, (tickedAmp r).residency)) =
      (some 0, some 0, some 480000, .quiet, some 480000) := by decide +kernel

/-- Section 11.9: FAULT-CLEAR makes the group WAKING with its timer at 144,000. -/
theorem test_faultClear : ((after (.faultClear hd 0) (ampIn .fault (some .ampFault))).amp 0).wakeTimer = some 144000 := by decide +kernel

/-- R3: one frame period counts the loss timers; nothing counts while the reset input is low (R20). -/
theorem test_emptyQueue : (match step u, step low with
    | .next t, .next v => ((t.port 0).loss, (v.port 0).loss) == (some 1, some 0)
    | _, _ => false) = true := by decide +kernel


end Sys2Proof.Tests
end

section
/-! PROOFS. O20: what CLEAR-COUNTS sets to 0 (R36). -/

namespace Sys2Proof.Machine

/-- R22: the owning block answers an admitted request whose payload fits a cell. -/
theorem takeRequest_admitted {h : ReqHdr} {len : Nat} {cls : AuthClass} {body : State → Answer} {s : State}
    (ha : Admitted h cls s) (hl : len ≤ 26) :
    takeRequest h len cls body s = replyTo h (body s).code (body s).data (body s).state := by
  obtain ⟨hrunning, hholds⟩ := ha
  exact takeRequest_answer hrunning hl hholds

/-! What the three commands do -/

theorem runClearCountsPort_inRange {h : ReqHdr} {port : Nat} {s : State} (ha : Admitted h .config s) (hp : port ≤ 5) :
    runClearCountsPort h port s = replyTo h .done [] (s.modPort port Port.clearCounts) := by
  rw [runClearCountsPort, takeRequest_admitted ha (by decide), if_neg (Nat.not_lt.mpr hp)]
  rfl

theorem runClearCountsPort_outOfRange {h : ReqHdr} {port : Nat} {s : State} (ha : Admitted h .config s) (hp : 5 < port) :
    runClearCountsPort h port s = replyTo h .refusedRange [] s := by
  rw [runClearCountsPort, takeRequest_admitted ha (by decide), if_pos hp]
  rfl

theorem runClearCountsBus_inRange {h : ReqHdr} {bus : Nat} {s : State} (ha : Admitted h .config s) (hb : bus ≤ 63) :
    runClearCountsBus h bus s = replyTo h .done [] (s.modBus bus Bus.clearClips) := by
  rw [runClearCountsBus, takeRequest_admitted ha (by decide), if_neg (Nat.not_lt.mpr hb)]
  rfl

theorem runClearCountsBus_outOfRange {h : ReqHdr} {bus : Nat} {s : State} (ha : Admitted h .config s) (hb : 63 < bus) :
    runClearCountsBus h bus s = replyTo h .refusedRange [] s := by
  rw [runClearCountsBus, takeRequest_admitted ha (by decide), if_pos hb]
  rfl

theorem runClearCountsEvery_admitted {h : ReqHdr} {s : State} (ha : Admitted h .config s) :
    runClearCountsEvery h s =
      replyTo h .done [] ((s.setPorts (s.ports.map Port.clearCounts)).setBuses (s.buses.map Bus.clearClips)) := by
  rw [runClearCountsEvery, takeRequest_admitted ha (by decide)]
  rfl

/-! What the clearing of every counter leaves unchanged -/

theorem setPorts_only (x : List Port) (s : State) : Only [.links, .queues] s (s.setPorts x) := by
  intro part hpart
  cases part <;> simp_all [Part.same]

/-- A bus keeps its record and its live crosspoints when its clip counter is cleared. -/
theorem mapClearClips_only (s : State) : Only [.busOutputs] s (s.setBuses (s.buses.map Bus.clearClips)) := by
  intro part hpart
  cases part
  case busRecords => exact map_map_view _ Bus.clearClips (fun _ => rfl) s.buses
  case crosspoints => exact map_map_view _ Bus.clearClips (fun _ => rfl) s.buses
  case busOutputs => exact absurd (List.mem_singleton_self _) hpart
  all_goals rfl

theorem clearEveryCount_only (s : State) :
    Only [.links, .queues, .busOutputs] s
      ((s.setPorts (s.ports.map Port.clearCounts)).setBuses (s.buses.map Bus.clearClips)) := by
  have hports : Only [.links, .queues, .busOutputs] s (s.setPorts (s.ports.map Port.clearCounts)) :=
    (setPorts_only _ s).mono (by decide)
  exact hports.trans ((mapClearClips_only (s.setPorts _)).mono (by decide))

/-! CLEAR-COUNTS (R36) -/

/-- Settles O20: an admitted request in range clears through `Port.clearCounts` and `Bus.clearClips`, one past the last port or
bus is refused, and EVERY clears both tables and touches no other part. -/
theorem clearCountsSetsCountersToZero : Obligations.ClearCountsSetsCountersToZero := by
  refine ⟨fun h port s ha => ?port, fun h bus s ha => ?bus, fun h s ha => ?every⟩
  case port =>
    split
    case isTrue hp => exact congrArg Host.Outcome.next (runClearCountsPort_inRange ha hp)
    case isFalse hp => exact congrArg Host.Outcome.next (runClearCountsPort_outOfRange ha (Nat.not_le.mp hp))
  case bus =>
    split
    case isTrue hb => exact congrArg Host.Outcome.next (runClearCountsBus_inRange ha hb)
    case isFalse hb => exact congrArg Host.Outcome.next (runClearCountsBus_outOfRange ha (Nat.not_le.mp hb))
  case every =>
    exact ⟨_, congrArg Host.Outcome.next (runClearCountsEvery_admitted ha), rfl, rfl, clearEveryCount_only s⟩

end Sys2Proof.Machine
end

section
/-! PROOFS. O22: one mix period (R51 to R60): its stages entry by entry and bus by bus, the layer coefficients, and what the
settling behind it leaves as the mix engine made it. -/

namespace Sys2Proof.Machine

/-! Reading a record through a frame -/

/-- Records whose views agree agree in the view at every number. -/
theorem getD_view {α β : Type} {f : α → β} {l m : List α} (h : l.map f = m.map f) (i : Nat) (d : α) :
    f (l.getD i d) = f (m.getD i d) := by
  rw [← List.getD_map (f := f), h, List.getD_map]

/-- What keeps the three parts of the buses keeps every bus. -/
theorem Only.bus {l : List Part} {s t : State} (h : Only l s t) (hr : Part.busRecords ∉ l) (ho : Part.busOutputs ∉ l)
    (hx : Part.crosspoints ∉ l) (b : Nat) : t.bus b = s.bus b := by
  have hrec := getD_view (h .busRecords hr) b busReset
  have hout := getD_view (h .busOutputs ho) b busReset
  have hlive := getD_view (h .crosspoints hx) b busReset
  simp only [Prod.mk.injEq] at hrec hout
  obtain ⟨hrole, hzone, hdests⟩ := hrec
  obtain ⟨hclips, hline, houtput⟩ := hout
  exact (Bus.mk.injEq ..).mpr ⟨hrole, hzone, hdests, hclips, hline, houtput, hlive⟩

/-- What keeps the layer coefficients keeps those of every zone. -/
theorem Only.zoneCoefs {l : List Part} {s t : State} (h : Only l s t) (hc : Part.layerCoefs ∉ l) (z : Nat) :
    (t.zone z).map Part.same.coefs = (s.zone z).map Part.same.coefs := getD_view (h .layerCoefs hc) z none

/-- R162: the engine watches the roles and the crosspoints of the buses of its watched scope, and nothing else. -/
theorem watchedMoving_congr {s t : State} (hw : t.showCtl.watched = s.showCtl.watched) (hb : ∀ b, t.bus b = s.bus b) :
    watchedMoving t = watchedMoving s := by
  simp only [watchedMoving, hw, hb]

/-! What a reader takes of a source (R14, R75, R76) -/

theorem streamSample_eq (s : State) (n : Nat) : streamSample s n =
    if (s.stream n).state = .primary ∨ (s.stream n).state = .backup then (s.stream n).sample else 0 := by
  unfold streamSample streamAvailable
  cases (s.stream n).state <;> simp

theorem voiceSource_sample (s : State) (z : Nat) (zn : Zone) : sourceSample s (voiceSource s z zn) =
    if zn.mode = .normal ∨ zn.mode = .alarm then 0
    else match heardOf s z with
      | some (.chiming _ (some v)) => (s.voice v).sample
      | some (.audible _ n) => streamSample s n
      | _ => 0 := by
  unfold voiceSource
  cases zn.mode
  case normal => rfl
  case alarm => rfl
  all_goals
    rcases heardOf s z with _ | ⟨c, _ | v⟩ | ⟨c, n⟩ <;> rfl

theorem alarmSource_sample (s : State) (zn : Zone) : sourceSample s (alarmSource s zn) =
    if zn.mode = .normal ∨ zn.mode = .voice then 0
    else match zn.applied.bind (signalVoice s) with
      | some v => (s.voice v).sample
      | none => 0 := by
  unfold alarmSource
  cases zn.mode
  case normal => rfl
  case voice => rfl
  all_goals
    rcases zn.applied with _ | k
    · rfl
    · dsimp only [Option.bind_some]
      cases signalVoice s k <;> rfl

/-! Stage 1 (R52) -/

theorem zeroCrossTake_eq (hold : Bool) (smp : Sample) (x : XPoint) : zeroCrossTake hold smp x =
    if x.mode = .zeroCross ∧ x.pending.isSome = true ∧ hold = false then
      (if smp = 0 ∨ smp.sign ≠ x.prev.sign ∨ 480 ≤ x.wait then
        { x with cur := x.pending.getD 0, pending := none, wait := 0 } else { x with wait := x.wait + 1 })
    else x := by
  unfold zeroCrossTake
  split
  case h_1 c hmode hpending => cases hold <;> simp [hmode, hpending, Config.zeroCrossWait]
  case h_2 hnot =>
    refine (if_neg ?_).symm
    rintro ⟨hmode, hpending, -⟩
    obtain ⟨c, hc⟩ := Option.isSome_iff_exists.mp hpending
    exact hnot c hmode hc

/-- A take is of the coefficient and its waiting; stream, mode and step stay. -/
theorem zeroCrossTake_keeps (hold : Bool) (smp : Sample) (x : XPoint) :
    (zeroCrossTake hold smp x).stream = x.stream ∧ (zeroCrossTake hold smp x).mode = x.mode ∧
      (zeroCrossTake hold smp x).step = x.step := by
  rw [zeroCrossTake_eq]
  split
  · split <;> exact ⟨rfl, rfl, rfl⟩
  · exact ⟨rfl, rfl, rfl⟩

/-! Stages 2 to 4 (R53 to R55, R60) -/

/-- R53: the program value is formed of the coefficients that stage 1 leaves. -/
theorem programValue_taken (sample : Nat → Sample) (hold : Bool) (l : List XPoint) :
    programValue sample (l.map (fun x => zeroCrossTake hold (sample x.stream) x)) =
      ((l.map (fun x => sample x.stream * ((zeroCrossTake hold (sample x.stream) x).cur : Int))).sum + 8192) / 16384 := by
  simp only [programValue, programSum, round14, List.map_map, Function.comp_def, (zeroCrossTake_keeps ..).1]

/-- R55: a ZONE bus of no zone carries its program value. -/
theorem compose_programOnly (vp : Int) : compose vp 0 0 16384 0 0 = vp := by
  simp only [compose, round14]
  omega

theorem composeZone_eq (s : State) (zone : Option Nat) (live : List XPoint) : composeZone s zone live =
    match zone.bind (fun z => (s.zone z).map (fun zn => (z, zn))) with
    | none => programValue (streamSample s) live
    | some (z, zn) => (programValue (streamSample s) live * zn.kp + sourceSample s (voiceSource s z zn) * zn.kv +
        sourceSample s (alarmSource s zn) * zn.ka + 8192) / 16384 := by
  unfold composeZone
  rcases zone.bind (fun z => (s.zone z).map (fun zn => (z, zn))) with _ | ⟨z, zn⟩
  · exact compose_programOnly _
  · rfl

theorem mixMinus_eq (s : State) (g : Group) (m : Nat) : mixMinus s g m =
    (((g.talkers.filter (fun j => j != m)).map (fun j =>
      ((g.members[j]?).map (fun mb => streamSample s mb.stream * (mb.gain : Int))).getD 0)).sum + 8192) / 16384 := by
  unfold mixMinus round14
  congr 4
  funext j
  cases g.members[j]? <;> rfl

/-- R41: the composed output by role, from the values of its layers. -/
theorem composedOutput_eq (s : State) (b : Nat) (bus : Bus) (live : List XPoint) : composedOutput s b bus live =
    match bus.role with
    | .unused => 0
    | .zone => (match bus.zone.bind (fun z => (s.zone z).map (fun zn => (z, zn))) with
      | none => programValue (streamSample s) live
      | some (z, zn) => (programValue (streamSample s) live * zn.kp + sourceSample s (voiceSource s z zn) * zn.kv +
          sourceSample s (alarmSource s zn) * zn.ka + 8192) / 16384)
    | .talk => (match memberOfBus s b with
      | none => 0
      | some (g, m) => ((((s.group g).talkers.filter (fun j => j != m)).map (fun j =>
          (((s.group g).members[j]?).map (fun mb => streamSample s mb.stream * (mb.gain : Int))).getD 0)).sum + 8192) / 16384) := by
  unfold composedOutput
  cases bus.role
  case unused => rfl
  case zone => exact composeZone_eq s bus.zone live
  case talk =>
    rcases memberOfBus s b with _ | ⟨g, m⟩
    · rfl
    · exact mixMinus_eq s (s.group g) m

/-! Stages 5 and 6 (R56, R57) -/

theorem throughLine_line (line : List Sample) (x : Sample) : (throughLine line x).1 = (line ++ [x]).tail := by
  cases line <;> rfl

theorem throughLine_output (line : List Sample) (x : Sample) : (throughLine line x).2 = (line ++ [x]).headD 0 := by
  cases line <;> rfl

/-- R56, R57: what a mix period writes of a bus's composed output o. -/
theorem mixBus_emit {s : State} {b : Nat} {bus : Bus} {o : Int}
    (ho : composedOutput s b bus (bus.live.map (fun x => zeroCrossTake s.showCtl.hold (streamSample s x.stream) x)) = o) :
    (mixBus s b bus).output = (bus.line ++ [saturate o]).headD 0 ∧ (mixBus s b bus).line = (bus.line ++ [saturate o]).tail ∧
      (mixBus s b bus).clips = if saturate o = o then bus.clips else min 65535 (bus.clips + 1) := by
  subst ho
  exact ⟨throughLine_output .., throughLine_line .., rfl⟩

/-! Stage 7 (R58, R59) -/

theorem advanceEntries_eq (hold : Bool) (l : List XPoint) (hstep : ∀ x ∈ l, x.mode = .ramp → x.step.isSome = true) :
    advanceEntries hold l =
      (l.map (fun x => if x.mode = .ramp ∧ hold = false then { x with cur := moveToward x.cur x.target (x.step.getD 0) } else x)).filter
        (fun x => hold || !(x.retiring && x.cur == 0 && x.pending.isNone)) := by
  cases hold
  case true => simp [advanceEntries]
  case false =>
    have hmap : l.map XPoint.advance =
        l.map (fun x => if x.mode = .ramp then { x with cur := moveToward x.cur x.target (x.step.getD 0) } else x) := by
      refine List.map_congr_left (fun x hx => ite_congr rfl (fun hramp => ?_) (fun _ => rfl))
      obtain ⟨n, hn⟩ := Option.isSome_iff_exists.mp (hstep x hx hramp)
      rw [hn]
      rfl
    simp [advanceEntries, hmap]

/-- R52, R58, R59: a bus's entries after a mix period: stage 1, the previous samples, the advance, and the removals. -/
theorem mixBus_live (s : State) (b : Nat) (bus : Bus) (hstep : ∀ x ∈ bus.live, x.mode = .ramp → x.step.isSome = true) :
    (mixBus s b bus).live =
      (bus.live.map (fun x =>
        let y := { zeroCrossTake s.showCtl.hold (streamSample s x.stream) x with prev := streamSample s x.stream }
        if y.mode = .ramp ∧ s.showCtl.hold = false then { y with cur := moveToward y.cur y.target (y.step.getD 0) } else y)).filter
        (fun x => s.showCtl.hold || !(x.retiring && x.cur == 0 && x.pending.isNone)) := by
  have htaken : ∀ y ∈ (bus.live.map (fun x => zeroCrossTake s.showCtl.hold (streamSample s x.stream) x)).map
      (fun x => { x with prev := streamSample s x.stream }), y.mode = .ramp → y.step.isSome = true := by
    simp only [List.map_map, List.forall_mem_map]
    intro x hx
    obtain ⟨-, hmode, hkept⟩ := zeroCrossTake_keeps s.showCtl.hold (streamSample s x.stream) x
    simpa only [Function.comp_apply, hmode, hkept] using hstep x hx
  refine (advanceEntries_eq s.showCtl.hold _ htaken).trans ?_
  simp only [List.map_map, Function.comp_def, (zeroCrossTake_keeps ..).1]

/-! The state behind a mix period -/

theorem mixAll_bus {s : State} (hs : Sized s) {b : Nat} (hb : b < 64) : (mixAll s).bus b = mixBus s b (s.bus b) := by
  have hlen : b < s.buses.length := hs.buses ▸ hb
  simp [mixAll, State.bus, List.getD_eq_getElem?_getD, hlen]

theorem mixAll_zone (s : State) (z : Nat) : (mixAll s).zone z = (s.zone z).map Zone.advance :=
  List.getD_map (f := Option.map Zone.advance) (d := none) ..

theorem cueSettle_showCtl (s : State) : (cueSettle s).showCtl = { s.showCtl with
    engine := if s.showCtl.engine = .fading ∧ watchedMoving s = false then .settled else s.showCtl.engine } := by
  unfold cueSettle
  split <;> rfl

theorem runMixPeriod_running {s : State} (hr : s.pins.resetLow = false) :
    runMixPeriod s = conclude s (cueSettle (mixAll s)) := by
  simp [runMixPeriod, whileRunning, hr]

/-- What settles the cue engine and closes the event behind the mix leaves every bus and coefficient as the mix made them. -/
theorem mixAll_settled_only (before s : State) : Only (settling ++ [Part.engine]) (mixAll s) (conclude before (cueSettle (mixAll s))) :=
  ((cueSettle_only _).mono (by decide)).trans ((conclude_only before _).mono (by decide))

theorem runMixPeriod_bus {s : State} (hs : Sized s) (hr : s.pins.resetLow = false) {b : Nat} (hb : b < 64) :
    (runMixPeriod s).bus b = mixBus s b (s.bus b) := by
  rw [runMixPeriod_running hr, (mixAll_settled_only s s).bus (by decide) (by decide) (by decide), mixAll_bus hs hb]

theorem runMixPeriod_coefs {s : State} (hr : s.pins.resetLow = false) (z : Nat) :
    ((runMixPeriod s).zone z).map Part.same.coefs = (s.zone z).map (fun n => Part.same.coefs n.advance) := by
  rw [runMixPeriod_running hr, (mixAll_settled_only s s).zoneCoefs (by decide), mixAll_zone, Option.map_map]
  rfl

/-- R162: the cue engine behind a mix period; the settling of the event leaves what the engine watches. -/
theorem runMixPeriod_engine {s : State} (hr : s.pins.resetLow = false) :
    (runMixPeriod s).showCtl.engine =
      (if s.showCtl.engine = .fading ∧ watchedMoving (runMixPeriod s) = false then .settled else s.showCtl.engine) ∧
    (runMixPeriod s).showCtl.current = s.showCtl.current ∧ (runMixPeriod s).showCtl.watched = s.showCtl.watched := by
  rw [runMixPeriod_running hr]
  have hclosed := conclude_only s (cueSettle (mixAll s)) .engine (by decide)
  simp only [Part.same, cueSettle_showCtl, Prod.mk.injEq] at hclosed
  obtain ⟨hengine, hcurrent, hwatched⟩ := hclosed
  have hmoving : watchedMoving (conclude s (cueSettle (mixAll s))) = watchedMoving (mixAll s) :=
    watchedMoving_congr hwatched ((mixAll_settled_only s s).bus (by decide) (by decide) (by decide))
  rw [hmoving]
  exact ⟨hengine, hcurrent, hwatched⟩

/-- Settles O22: a bus is what `mixBus` makes of it, and the stages of `mixBus` are read off one by one; the layer
coefficients and the cue engine follow, and the frame is `runMixPeriod_only`. -/
theorem mixPeriodComputesEveryBus : Obligations.MixPeriodComputesEveryBus := by
  intro s hs hr hstep hold stream voiceLayer alarmLayer taken advanced
  have hstream : streamSample s = stream := funext (streamSample_eq s)
  have htaken : ∀ x, zeroCrossTake s.showCtl.hold (stream x.stream) x = taken x := fun x => zeroCrossTake_eq _ _ x
  have hvoice : ∀ z zn, sourceSample s (voiceSource s z zn) = voiceLayer z zn := by
    intro z zn
    have hsample := voiceSource_sample s z zn
    rewrite [hstream] at hsample
    exact hsample
  have halarm : ∀ zn, sourceSample s (alarmSource s zn) = alarmLayer zn := alarmSource_sample s
  refine ⟨runMixPeriod s, rfl, fun b hb => ?bus, fun z _ => ?coefs, ?engine⟩
  case bus =>
    intro bus vp o v
    have hvp : programValue (streamSample s) (bus.live.map (fun x => zeroCrossTake s.showCtl.hold (streamSample s x.stream) x)) = vp := by
      rw [programValue_taken]
      simp only [hstream, htaken, vp]
    have ho : composedOutput s b bus (bus.live.map (fun x => zeroCrossTake s.showCtl.hold (streamSample s x.stream) x)) = o := by
      rw [composedOutput_eq, hvp]
      simp only [hstream, hvoice, halarm]
      rfl
    rw [runMixPeriod_bus hs hr hb]
    obtain ⟨houtput, hline, hclips⟩ := mixBus_emit ho
    refine ⟨houtput, hline, hclips, ?_⟩
    rw [mixBus_live s b _ (hstep b hb)]
    simp only [hstream, htaken]
    rfl
  case coefs => exact runMixPeriod_coefs hr z
  case engine =>
    obtain ⟨hengine, hcurrent, hwatched⟩ := runMixPeriod_engine hr
    exact ⟨hengine, hcurrent, hwatched, (runMixPeriod_only s).mono (by decide)⟩

end Sys2Proof.Machine
end
